-- ==== Sys2Proof/Word.lean ====
section
/-! DEFINITION. The words of the links and the plainest helpers over fixed tables. -/

namespace Sys2Proof

/-- One byte of a link frame (R167). -/
abbrev Byte := BitVec 8

/-- A two-byte quantity: a sequence number (R139) or a frame check (R167). -/
abbrev Word16 := BitVec 16

/-- A 32-bit count: a time tag (R165) or a scan number (R32). -/
abbrev Word32 := BitVec 32

/-- The table whose row `i` is `f i`. -/
@[irreducible] def tab {α : Type} {n : Nat} (f : Fin n → α) : Vector α n := Vector.ofFn f

/-- The table `v` with row `i` changed by `f`. -/
@[irreducible] def upd {α : Type} {n : Nat} (v : Vector α n) (i : Fin n) (f : α → α) : Vector α n :=
  v.set i.val (f v[i]) i.isLt

/-- The table whose rows are all `a`. -/
def fill {α : Type} (n : Nat) (a : α) : Vector α n := tab fun _ => a

end Sys2Proof
end

