-- ==== Sys2Proof/Syntax.lean ====
section
/-! DEFINITION. The commands of the block: one constructor for each row of the table of operations and events. -/

namespace Sys2Proof

/-- The two host ports (00_scope 0.2, chapter 11). -/
inductive Port where
  | control
  | maintenance
  deriving DecidableEq, Repr

/-- The bit rates the control port's strap selects (00_scope 0.7, section 11.6). -/
inductive PortRate where
  | b9600
  | b19200
  | b38400
  | b57600
  | b115200
  deriving DecidableEq, Repr

/-- What the straps read at power-on and at the release of the reset pin (R160, 00_scope 0.7). -/
structure Straps where
  /-- the station address, 1 to 31 -/
  address : BitVec 5
  /-- the control port's rate -/
  rate : PortRate
  deriving DecidableEq, Repr

/-- The 37 request kinds, in ascending order of their codes (section 11.6). -/
inductive RequestKind where
  | identify
  | status
  | conditionsTake
  | start
  | stop
  | pause
  | resume
  | restart
  | syncTime
  | timeResSet
  | scanSet
  | channelSet
  | channelEnable
  | channelGet
  | channelStatus
  | curveSet
  | curveGet
  | cardSet
  | cardStatus
  | passSet
  | cellBind
  | cellGet
  | zoneSet
  | zoneGet
  | holdPass
  | releasePass
  | clearPeaks
  | mapRead
  | passSummary
  | trendSet
  | trendRead
  | logRead
  | logClear
  | noticeTake
  | noticeMaskSet
  | attentionSet
  | permitSet
  deriving DecidableEq, Repr

/-- The commands: the rows of the table of operations and events. A request row carries the port it
arrives on and the payload of its frame (R170). -/
inductive Instr where
  /-- POWER_ON (R160): the supply comes on and the straps read so. -/
  | powerOn (straps : Straps)
  /-- RESET_PIN_ASSERT (R160). -/
  | resetPinAssert
  /-- RESET_PIN_RELEASE (R160): the straps read so. -/
  | resetPinRelease (straps : Straps)
  /-- IDENTIFY (R173), code 0x01. -/
  | identify (port : Port) (payload : List Byte)
  /-- STATUS (R159), code 0x02. -/
  | status (port : Port) (payload : List Byte)
  /-- CONDITIONS_TAKE (R159), code 0x03. -/
  | conditionsTake (port : Port) (payload : List Byte)
  /-- START (R161), code 0x10. -/
  | start (port : Port) (payload : List Byte)
  /-- STOP (R163), code 0x11. -/
  | stop (port : Port) (payload : List Byte)
  /-- PAUSE (R163), code 0x12. -/
  | pause (port : Port) (payload : List Byte)
  /-- RESUME (R163), code 0x13. -/
  | resume (port : Port) (payload : List Byte)
  /-- RESTART (R164), code 0x14. -/
  | restart (port : Port) (payload : List Byte)
  /-- SYNC_TIME (R166): addressed to the part, or sent to the broadcast address 0 (R169). -/
  | syncTime (port : Port) (broadcast : Bool) (payload : List Byte)
  /-- TIME_RES_SET (R165), code 0x19. -/
  | timeResSet (port : Port) (payload : List Byte)
  /-- SCAN_SET (R39), code 0x1a. -/
  | scanSet (port : Port) (payload : List Byte)
  /-- CHANNEL_SET (R26), code 0x20. -/
  | channelSet (port : Port) (payload : List Byte)
  /-- CHANNEL_ENABLE (R27), code 0x21. -/
  | channelEnable (port : Port) (payload : List Byte)
  /-- CHANNEL_GET (R29), code 0x22. -/
  | channelGet (port : Port) (payload : List Byte)
  /-- CHANNEL_STATUS (R66), code 0x23. -/
  | channelStatus (port : Port) (payload : List Byte)
  /-- CURVE_SET (R43), code 0x24. -/
  | curveSet (port : Port) (payload : List Byte)
  /-- CURVE_GET (R45), code 0x25. -/
  | curveGet (port : Port) (payload : List Byte)
  /-- CARD_SET (R71), code 0x26. -/
  | cardSet (port : Port) (payload : List Byte)
  /-- CARD_STATUS (R72), code 0x27. -/
  | cardStatus (port : Port) (payload : List Byte)
  /-- PASS_SET (R4), code 0x30. -/
  | passSet (port : Port) (payload : List Byte)
  /-- CELL_BIND (R7), code 0x31. -/
  | cellBind (port : Port) (payload : List Byte)
  /-- CELL_GET (R18), code 0x32. -/
  | cellGet (port : Port) (payload : List Byte)
  /-- ZONE_SET (R104), code 0x33. -/
  | zoneSet (port : Port) (payload : List Byte)
  /-- ZONE_GET (R105), code 0x34. -/
  | zoneGet (port : Port) (payload : List Byte)
  /-- HOLD_PASS (R115), code 0x35. -/
  | holdPass (port : Port) (payload : List Byte)
  /-- RELEASE_PASS (R115), code 0x36. -/
  | releasePass (port : Port) (payload : List Byte)
  /-- CLEAR_PEAKS (R80), code 0x37. -/
  | clearPeaks (port : Port) (payload : List Byte)
  /-- MAP_READ (R16), code 0x38. -/
  | mapRead (port : Port) (payload : List Byte)
  /-- PASS_SUMMARY (R17), code 0x39. -/
  | passSummary (port : Port) (payload : List Byte)
  /-- TREND_SET (R127), code 0x40. -/
  | trendSet (port : Port) (payload : List Byte)
  /-- TREND_READ (R137), code 0x41. -/
  | trendRead (port : Port) (payload : List Byte)
  /-- LOG_READ (R146), code 0x48. -/
  | logRead (port : Port) (payload : List Byte)
  /-- LOG_CLEAR (R149), code 0x49. -/
  | logClear (port : Port) (payload : List Byte)
  /-- NOTICE_TAKE (R156), code 0x50. -/
  | noticeTake (port : Port) (payload : List Byte)
  /-- NOTICE_MASK_SET (R155), code 0x51. -/
  | noticeMaskSet (port : Port) (payload : List Byte)
  /-- ATTENTION_SET (R157), code 0x52. -/
  | attentionSet (port : Port) (payload : List Byte)
  /-- PERMIT_SET (R172), code 0x58. -/
  | permitSet (port : Port) (payload : List Byte)
  /-- UNKNOWN_KIND_REQUEST (R170): a complete addressed frame of that kind byte. -/
  | unknownKindRequest (port : Port) (kind : Byte) (payload : List Byte)
  /-- FRAME_IGNORED (R169). -/
  | frameIgnored (port : Port)
  /-- FRAME_DAMAGED (R168): a length byte above 240 or a bad check. -/
  | frameDamaged (port : Port)
  /-- FRAME_GAP_TIMEOUT (R168): more than 5 ms since a byte of a partial frame. -/
  | frameGapTimeout (port : Port)
  /-- REPLY_END (R171): the last byte of the reply has been sent. -/
  | replyEnd (port : Port)
  /-- CONVERSION_ANSWER (R19, R33): whether its check is sound, and its fields. -/
  | conversionAnswer (sound : Bool) (card : Fin 6) (input : Fin 16) (emf : Int) (burnout : Bool)
  /-- COLD_JUNCTION_ANSWER (R19, R68): whether its check is sound, and its fields. -/
  | coldJunctionAnswer (sound : Bool) (card : Fin 6) (temperature : Int)
  /-- ANSWER_PERIOD_EXPIRY (R23): the 60 ms of the outstanding request are over. -/
  | answerPeriodExpiry
  /-- SCAN_INTERVAL_TIMER_EXPIRY (R38). -/
  | scanIntervalTimerExpiry
  /-- TIME_TAG_PERIOD_EXPIRY (R165). -/
  | timeTagPeriodExpiry
  /-- PUBLICATION (R93): the computation in flight completes. -/
  | publication
  /-- BYTE_RECEIVED (R168, R171). -/
  | byteReceived (port : Port) (byte : Byte)
  /-- POWER_LOSS (R168). -/
  | powerLoss
  deriving DecidableEq, Repr

/-- The kind code of a request kind (section 11.6). -/
def RequestKind.code : RequestKind → Byte
  | .identify => 0x01
  | .status => 0x02
  | .conditionsTake => 0x03
  | .start => 0x10
  | .stop => 0x11
  | .pause => 0x12
  | .resume => 0x13
  | .restart => 0x14
  | .syncTime => 0x18
  | .timeResSet => 0x19
  | .scanSet => 0x1a
  | .channelSet => 0x20
  | .channelEnable => 0x21
  | .channelGet => 0x22
  | .channelStatus => 0x23
  | .curveSet => 0x24
  | .curveGet => 0x25
  | .cardSet => 0x26
  | .cardStatus => 0x27
  | .passSet => 0x30
  | .cellBind => 0x31
  | .cellGet => 0x32
  | .zoneSet => 0x33
  | .zoneGet => 0x34
  | .holdPass => 0x35
  | .releasePass => 0x36
  | .clearPeaks => 0x37
  | .mapRead => 0x38
  | .passSummary => 0x39
  | .trendSet => 0x40
  | .trendRead => 0x41
  | .logRead => 0x48
  | .logClear => 0x49
  | .noticeTake => 0x50
  | .noticeMaskSet => 0x51
  | .attentionSet => 0x52
  | .permitSet => 0x58

/-- The 37 kinds in ascending order of their codes (section 11.6). -/
def RequestKind.all : List RequestKind :=
  [.identify, .status, .conditionsTake, .start, .stop, .pause,
   .resume, .restart, .syncTime, .timeResSet, .scanSet, .channelSet,
   .channelEnable, .channelGet, .channelStatus, .curveSet, .curveGet, .cardSet,
   .cardStatus, .passSet, .cellBind, .cellGet, .zoneSet, .zoneGet,
   .holdPass, .releasePass, .clearPeaks, .mapRead, .passSummary, .trendSet,
   .trendRead, .logRead, .logClear, .noticeTake, .noticeMaskSet, .attentionSet,
   .permitSet]

/-- The kind of a code, if it is one of the request kinds (R170). -/
def RequestKind.ofCode (c : Byte) : Option RequestKind := RequestKind.all.find? fun k => k.code == c

/-- The payload of a request row's frame; empty for the rows that carry none. -/
def Instr.payload : Instr → List Byte
  | .powerOn _ => []
  | .resetPinAssert => []
  | .resetPinRelease _ => []
  | .identify _ payload => payload
  | .status _ payload => payload
  | .conditionsTake _ payload => payload
  | .start _ payload => payload
  | .stop _ payload => payload
  | .pause _ payload => payload
  | .resume _ payload => payload
  | .restart _ payload => payload
  | .syncTime _ _ payload => payload
  | .timeResSet _ payload => payload
  | .scanSet _ payload => payload
  | .channelSet _ payload => payload
  | .channelEnable _ payload => payload
  | .channelGet _ payload => payload
  | .channelStatus _ payload => payload
  | .curveSet _ payload => payload
  | .curveGet _ payload => payload
  | .cardSet _ payload => payload
  | .cardStatus _ payload => payload
  | .passSet _ payload => payload
  | .cellBind _ payload => payload
  | .cellGet _ payload => payload
  | .zoneSet _ payload => payload
  | .zoneGet _ payload => payload
  | .holdPass _ payload => payload
  | .releasePass _ payload => payload
  | .clearPeaks _ payload => payload
  | .mapRead _ payload => payload
  | .passSummary _ payload => payload
  | .trendSet _ payload => payload
  | .trendRead _ payload => payload
  | .logRead _ payload => payload
  | .logClear _ payload => payload
  | .noticeTake _ payload => payload
  | .noticeMaskSet _ payload => payload
  | .attentionSet _ payload => payload
  | .permitSet _ payload => payload
  | .frameIgnored _ => []
  | .frameDamaged _ => []
  | .frameGapTimeout _ => []
  | .replyEnd _ => []
  | .conversionAnswer _ _ _ _ _ => []
  | .coldJunctionAnswer _ _ _ => []
  | .answerPeriodExpiry => []
  | .scanIntervalTimerExpiry => []
  | .timeTagPeriodExpiry => []
  | .publication => []
  | .byteReceived _ _ => []
  | .powerLoss => []
  | .unknownKindRequest _ _ payload => payload

end Sys2Proof
end

