-- ==== Sys2Proof/Decode.lean ====
section
/-! DEFINITION. The words of the table: no row of the table of operations and events gives bits. -/

namespace Sys2Proof

/-- The command that a word of the table spells. Every row of the table has neither fixed bits nor
fields, so no word spells one (log entry 17). -/
def decodeTableWord (_nbits _w : Nat) : Option Instr := none

end Sys2Proof
end

