-- ==== Sys2Proof/Config.lean ====
section
/-! DEFINITION. What one module fixes and the spec does not give: constants without a value. -/

namespace Sys2Proof

/-- The firmware's major revision number, "fixed in the part's firmware and changed by no request and
no reset" (R173). Log entry 3. -/
opaque Config.firmwareMajor : Byte

/-- The firmware's minor revision number (R173). Log entry 3. -/
opaque Config.firmwareMinor : Byte

/-- The kind byte of the reply to a request of an unknown kind of 0x80 or above, where "the request
kind plus 0x80" (R170) does not fit the byte of the layout (11.6). A free value: log entry 4. -/
opaque Config.replyKindAbove : Byte → Byte

/-- Which of the things in transit between two blocks arrives next, at the draw `n` and the position `k` of
that draw: the streams reach their blocks independently (R97, R135, R144, R145). A free value: log entry 5. -/
opaque Config.arrivalOrder : Nat → Nat → Nat

/-- How many of the things in transit arrive within one event, at the draw `n` (R97, R144, R148). A free
value: log entry 6. -/
opaque Config.arrivalCount : Nat → Nat

end Sys2Proof
end

