-- ==== Sys2Proof/Machine/State.lean ====
section
/-! DEFINITION. The state of the block as plain data, its reset values, and the reasons a step could stop. -/

namespace Sys2Proof.Machine

/-! ### Numbers (00_scope 0.5) -/

/-- A channel, 0 to 95. -/
abbrev ChannelNo := Fin 96
/-- A card, 0 to 5. -/
abbrev CardNo := Fin 6
/-- A pass, 0 to 3. -/
abbrev PassNo := Fin 4
/-- A station position, 0 to 31. -/
abbrev Station := Fin 32
/-- A cell index, pass × 32 + station (R2). -/
abbrev CellIndex := Fin 128
/-- A zone, 0 to 7. -/
abbrev ZoneNo := Fin 8

/-! ### Names (section 11.6) -/

/-- The operating state (R160). -/
inductive OpState where
  | stopped | running | paused
  deriving DecidableEq, Repr

/-- The resolution of the time tag (R165). -/
inductive Resolution where
  | ms10 | ms100 | s1
  deriving DecidableEq, Repr

/-- The quality of a cell (R9). -/
inductive Quality where
  | good | held | estimated | void
  deriving DecidableEq, Repr

/-- The band of a cell (R10). -/
inductive Band where
  | normal | watch | alarm | limit | held
  deriving DecidableEq, Repr

/-- The combine mode of a binding (R6). -/
inductive CombineMode where
  | primary | mean | higher
  deriving DecidableEq, Repr

/-- The health state of a channel (R58). -/
inductive Health where
  | disabled | untested | good | suspect | failed
  deriving DecidableEq, Repr

/-- The status of a reading (R57); `none` only in a last reading after a reset (R65). -/
inductive ReadingStatus where
  | none | ok | rangeLow | rangeHigh | burnout | invalid | missing | disabled
  deriving DecidableEq, Repr

/-- The presence of a card (R21). -/
inductive Presence where
  | unused | unknown | present | lost
  deriving DecidableEq, Repr

/-- The last cold-junction outcome of a card (R67). -/
inductive CjOutcome where
  | none | valid | invalid | noAnswer
  deriving DecidableEq, Repr

/-- The sixteen record kinds, in the order of R142. -/
inductive RecordKind where
  | bandRise | bandFall | rateOn | rateOff | disagreeOn | disagreeOff | sourceLost | sourceBack
  | spreadOn | spreadOff | holdOn | holdOff | channelFailed | channelRecovered | cardLost | cardBack
  deriving DecidableEq, Repr

/-- The sixteen notice kinds, in the order of R151. -/
inductive NoticeKind where
  | limitEntered | alarmEntered | rateHigh | spreadHigh | channelFailed | channelRecovered | cardLost
  | disagree | mapSkipped | scanLate | logHalf | logWrap | trendHalf | trendWrap | passClosed | timeWrap
  deriving DecidableEq, Repr

/-! ### Link Interface (chapter 11) -/

/-- The frame assembly state of a port, with the bytes held after the start byte (R168). -/
inductive Assembly where
  | hunting
  | assembling (held : List Byte)
  deriving DecidableEq, Repr

/-- One host port: its assembly state, and the reply frame it is sending (R171: the port is replying
while there is one). -/
structure PortState where
  assembly : Assembly
  reply : Option (List Byte)
  deriving DecidableEq, Repr

/-- The Link Interface: what the straps read last, the two ports and the permission table of the
maintenance port, in the order of the kinds' codes (R172). -/
structure Link where
  stationAddress : Byte
  rate : PortRate
  control : PortState
  maintenance : PortState
  permits : Vector Bool 37
  deriving DecidableEq, Repr

/-! ### Operating Control (chapter 10) -/

/-- Operating Control: the operating state, the scan interval timer (`none`: stopped; else its interval
in seconds, R38), the time tag and its resolution (R165). -/
structure Operating where
  state : OpState
  timer : Option Nat
  timeTag : Word32
  resolution : Resolution
  deriving DecidableEq, Repr

/-! ### Input Processor (chapters 2 to 4) -/

/-- A breakpoint of a curve set: an EMF in µV and a temperature in 0.1 °C (R42). -/
structure Breakpoint where
  emf : Int
  temp : Int
  deriving DecidableEq, Repr

/-- The last reading of a channel (R65). -/
structure LastReading where
  status : ReadingStatus
  value : Option Int
  clamped : Bool
  cjHeld : Bool
  scanNumber : Word32
  deriving DecidableEq, Repr

/-- A channel table entry: the configuration of R24 and the health fields of R58. -/
structure ChannelEntry where
  card : CardNo
  input : Fin 16
  enabled : Bool
  curve : Fin 4
  gain : Int
  offset : Int
  lowClamp : Int
  highClamp : Int
  health : Health
  badRun : Nat
  goodRun : Nat
  last : LastReading
  deriving DecidableEq, Repr

/-- A card table entry: presence and lost-in-scan marker (R21) and the cold-junction fields (R67). -/
structure CardEntry where
  presence : Presence
  lostInScan : Bool
  lastGood : Option Int
  cjHeld : Bool
  outcome : CjOutcome
  substitute : Int
  deriving DecidableEq, Repr

/-- A reading of the scan image (R34); its channel is its place in the image. -/
structure Reading where
  status : ReadingStatus
  value : Option Int
  clamped : Bool
  cjHeld : Bool
  usable : Bool
  deriving DecidableEq, Repr

/-- A closed scan image (R35). -/
structure ScanImage where
  number : Word32
  timeTag : Word32
  interval : Nat
  readings : Vector Reading 96
  deriving DecidableEq, Repr

/-- The open scan (R31, R33): its number, time tag and interval, the channels of its scan list that have
no reading yet in ascending order, the cards whose cold junction this scan has been answered for, and
the scan image under construction. -/
structure OpenScan where
  number : Word32
  timeTag : Word32
  interval : Nat
  remaining : List ChannelNo
  asked : Vector Bool 6
  readings : Vector (Option Reading) 96
  deriving DecidableEq, Repr

/-- The scan state (R30); SCANNING holds the open scan. -/
inductive ScanState where
  | idle
  | waiting
  | scanning (scan : OpenScan)
  deriving DecidableEq, Repr

/-- A request on the card link (R19). -/
inductive CardRequest where
  | conversion (card : CardNo) (input : Fin 16)
  | coldJunction (card : CardNo)
  deriving DecidableEq, Repr

/-- The outstanding request of the card link, and whether its scan has been aborted (R41). -/
structure Outstanding where
  request : CardRequest
  aborted : Bool
  deriving DecidableEq, Repr

/-- The Input Processor. -/
structure Input where
  channels : Vector ChannelEntry 96
  curves : Vector (List Breakpoint) 4
  cards : Vector CardEntry 6
  interval : Nat
  scanNumber : Word32
  scan : ScanState
  due : Bool
  outstanding : Option Outstanding
  deriving DecidableEq, Repr

/-! ### Map Engine (chapters 1, 5 and 6) -/

/-- The flags of a cell (R11). -/
structure CellFlags where
  clamped : Bool
  cjHeld : Bool
  secondaryUsed : Bool
  rate : Bool
  disagree : Bool
  deriving DecidableEq, Repr

/-- The cell state record (R8). -/
structure CellState where
  resolved : Option Int
  filtered : Option Int
  quality : Quality
  band : Band
  flags : CellFlags
  zone : ZoneNo
  holdCount : Nat
  riseCount : Nat
  rateCount : Nat
  disagreeCount : Nat
  prevFiltered : Option Int
  prevValid : Bool
  peak : Option Int
  peakTag : Word32
  scanNumber : Word32
  deriving DecidableEq, Repr

/-- A binding record (R6). -/
structure Binding where
  primary : Option ChannelNo
  secondary : Option ChannelNo
  combine : CombineMode
  logEnable : Bool
  deriving DecidableEq, Repr

/-- A pass table entry (R3). -/
structure PassEntry where
  stations : Nat
  spreadLimit : Option Int
  held : Bool
  spreadCount : Nat
  spreadFlag : Bool
  deriving DecidableEq, Repr

/-- A zone record (R102); bit p of the pass set stands for pass p (section 11.5). -/
structure ZoneRecord where
  enabled : Bool
  passes : BitVec 4
  first : Station
  last : Station
  watch : Option Int
  alarm : Option Int
  limit : Option Int
  hysteresis : Nat
  persistence : Nat
  holdAllowance : Nat
  weight : Nat
  rateLimit : Option Int
  discrepancy : Option Int
  deriving DecidableEq, Repr

/-- A pending entry of the control latch: its content and its taken mark (R78). -/
structure Entry (α : Type) where
  value : α
  taken : Bool
  deriving DecidableEq, Repr

/-- The control latch (R78): zone edits, desired held values and peak clears. -/
structure ControlLatch where
  zoneEdits : Vector (Option (Entry ZoneRecord)) 8
  holds : Vector (Option (Entry Bool)) 4
  peakClears : Vector (Option (Entry Unit)) 4
  deriving DecidableEq, Repr

/-- A pass summary (R12). -/
structure Summary where
  scanNumber : Word32
  timeTag : Word32
  stations : Nat
  hottestStation : Option Station
  hottestValue : Option Int
  coolestStation : Option Station
  coolestValue : Option Int
  mean : Option Int
  spread : Option Int
  goodCount : Nat
  heldCount : Nat
  estimatedCount : Nat
  voidCount : Nat
  held : Bool
  spreadFlag : Bool
  deriving DecidableEq, Repr

/-- The published map (R14). -/
structure PublishedMap where
  summaries : Vector Summary 4
  cells : Vector CellState 128
  deriving DecidableEq, Repr

/-- An image held by the intake, with its own resume marker (R73, R76). -/
structure MarkedImage where
  image : ScanImage
  resume : Bool
  deriving DecidableEq, Repr

/-- A computation in flight (R73, R77): its image; what its latch found (R81): the zones whose edges or
limits an applied edit changed (R107), the passes released, the passes marked for peak clearing and the
hold records formed (`some true` a HOLD_ON, `some false` a HOLD_OFF); and the zone table, held fields
and working cells from before the latch, to which an abandonment returns them (R82, R101). -/
structure Computation where
  source : MarkedImage
  limitsChanged : Vector Bool 8
  released : Vector Bool 4
  clearPeaks : Vector Bool 4
  holdRecords : Vector (Option Bool) 4
  savedZones : Vector ZoneRecord 8
  savedHeld : Vector Bool 4
  savedCells : Vector CellState 128
  deriving DecidableEq, Repr

/-- The Map Engine. The engine state is COMPUTING while `computing` holds a computation and READY
otherwise (R73). -/
structure MapEngine where
  passes : Vector PassEntry 4
  bindings : Vector Binding 128
  cells : Vector CellState 128
  zones : Vector ZoneRecord 8
  latch : ControlLatch
  computing : Option Computation
  waiting : Option MarkedImage
  resumeMarker : Bool
  published : PublishedMap
  deriving DecidableEq, Repr

/-! ### Trend Store (chapter 7) -/

/-- A station entry of a trend frame (R129). -/
structure StationEntry where
  filtered : Option Int
  quality : Quality
  band : Band
  flags : CellFlags
  deriving DecidableEq, Repr

/-- A trend frame (R129): the fields it shares with the pass summary are held as that summary. -/
structure Frame where
  pass : PassNo
  summary : Summary
  entries : List StationEntry
  deriving DecidableEq, Repr

/-- The ring sizes of a RING allocation (R125). -/
inductive RingSize where
  | r8 | r16 | r32 | r64 | r128
  deriving DecidableEq, Repr

/-- The mode of a pass with the configuration that the mode has (R125): a base slot for every mode but
OFF, and a ring size and valid-only for RING. -/
inductive TrendConfig where
  | off
  | snapshot (base : Fin 256)
  | paired (base : Fin 256)
  | ring (base : Fin 256) (size : RingSize) (validOnly : Bool)
  deriving DecidableEq, Repr

/-- Which slot of a PAIRED allocation (R125). -/
inductive PairSlot where
  | first | second
  deriving DecidableEq, Repr

/-- A pass trend record (R125). -/
structure PassTrend where
  config : TrendConfig
  writePosition : Nat
  fillCount : Nat
  active : PairSlot
  storedCount : Nat
  deriving DecidableEq, Repr

/-- The Trend Store: the frame pool and the four pass trend records (R125). -/
structure Trend where
  pool : Vector (Option Frame) 256
  passes : Vector PassTrend 4
  deriving DecidableEq, Repr

/-! ### Excursion Log (chapter 8) -/

/-- The subject of a record (R141). -/
inductive Subject where
  | cell (i : CellIndex)
  | channel (c : ChannelNo)
  | card (k : CardNo)
  | pass (p : PassNo)
  deriving DecidableEq, Repr

/-- A record as its sender forms it: every field of R141 but the sequence. -/
structure RecordBody where
  kind : RecordKind
  timeTag : Word32
  scanNumber : Word32
  subject : Subject
  station : Option Station
  value : Option Int
  bandBefore : Option Band
  bandAfter : Option Band
  zone : Option ZoneNo
  quality : Option Quality
  deriving DecidableEq, Repr

/-- A record of the log (R141). -/
structure Record where
  sequence : Word16
  body : RecordBody
  deriving DecidableEq, Repr

/-- The Excursion Log (R139). -/
structure Log where
  slots : Vector (Option Record) 256
  writePosition : Fin 256
  oldest : Word16
  count : Nat
  deriving DecidableEq, Repr

/-! ### Notice Unit (chapter 9) -/

/-- A notice: its kind and its parameter, absent for the kinds whose parameter is none (R151). Two
notices are of the same matter when they are equal. -/
structure Notice where
  kind : NoticeKind
  parameter : Option Nat
  deriving DecidableEq, Repr

/-- An entry of the notice queue; its place in the queue is its age order (R152). -/
structure QueueEntry where
  notice : Notice
  repeats : Nat
  held : Bool
  timeTag : Word32
  deriving DecidableEq, Repr

/-- The pending record of a masked kind (R154). -/
structure PendingRecord where
  parameter : Option Nat
  count : Nat
  timeTag : Word32
  deriving DecidableEq, Repr

/-- The mask and pending record of one notice kind (R154). -/
structure KindEntry where
  masked : Bool
  pending : Option PendingRecord
  deriving DecidableEq, Repr

/-- The four condition flags (R158). -/
structure ConditionFlags where
  powerOn : Bool
  noticeLost : Bool
  frameError : Bool
  maintWrite : Bool
  deriving DecidableEq, Repr

/-- The Notice Unit: the queue, oldest entry first, the sixteen kinds in the order of R151, the
attention level and the condition flags. -/
structure NoticeUnit where
  queue : List QueueEntry
  kinds : Vector KindEntry 16
  level : Fin 4
  flags : ConditionFlags
  deriving DecidableEq, Repr

/-! ### The whole part -/

/-- The blocks that send notices (R151). -/
inductive Sender where
  | inputProcessor | mapEngine | trendStore | excursionLog | operatingControl
  deriving DecidableEq, Repr

/-- What one block sends another and the other takes as it arrives: a record to the Excursion Log (R144)
or a notice to the Notice Unit (R151). -/
inductive Sent where
  | record (b : RecordBody)
  | notice (n : Notice)
  deriving DecidableEq, Repr

/-- The state of the part. `powered` and `resetPin` (asserted) are the supply and the reset pin;
`transit` is what has been sent and not yet taken, in the order it was sent (R95, R97, R144, R145);
`draws` counts the draws made from `Config.arrivalOrder` and `Config.arrivalCount` (log entries 5 and 6)
and `pending` is the queue of waiting commands, both the model's own. -/
structure State where
  powered : Bool
  resetPin : Bool
  link : Link
  op : Operating
  input : Input
  map : MapEngine
  trend : Trend
  log : Log
  notices : NoticeUnit
  transit : List Sent
  draws : Nat
  pending : List Instr
  deriving DecidableEq, Repr

/-! ### Reset values -/

/-- The read kinds, which the permission table permits by default (R172). -/
def isReadKind : RequestKind → Bool
  | .identify | .status | .channelGet | .channelStatus | .curveGet | .cardStatus | .cellGet | .zoneGet
  | .mapRead | .passSummary | .trendRead | .logRead => true
  | _ => false

/-- The permission table after power-on and the reset pin (R172). -/
def defaultPermits : Vector Bool 37 :=
  tab fun i => (RequestKind.all[i.val]?).elim false isReadKind

/-- A port after power-on and after the release of the reset pin: HUNTING with no bytes held (R168),
and not replying. -/
def PortState.reset : PortState := ⟨.hunting, none⟩

/-- The Link Interface after power-on and the reset pin. -/
def Link.reset (straps : Straps) : Link where
  stationAddress := straps.address.setWidth 8
  rate := straps.rate
  control := PortState.reset
  maintenance := PortState.reset
  permits := defaultPermits

/-- Operating Control after power-on and the reset pin (R38, R160, R165). -/
def Operating.reset : Operating := ⟨.stopped, none, 0, .ms100⟩

/-- The last reading after a reset (R65). -/
def LastReading.reset : LastReading := ⟨.none, none, false, false, 0⟩

/-- The default entry of channel `c` (R24, R58). -/
def ChannelEntry.default (c : ChannelNo) : ChannelEntry where
  card := ⟨c.val / 16, by omega⟩
  input := ⟨c.val % 16, by omega⟩
  enabled := false
  curve := 0
  gain := 10000
  offset := 0
  lowClamp := -500
  highClamp := 12000
  health := .disabled
  badRun := 0
  goodRun := 0
  last := LastReading.reset

/-- A card entry after power-on and the reset pin (R21, R67). -/
def CardEntry.default : CardEntry := ⟨.unused, false, none, false, .none, 250⟩

/-- The Input Processor after power-on and the reset pin (R24, R30, R32, R39, R42). -/
def Input.reset : Input where
  channels := tab ChannelEntry.default
  curves := fill 4 []
  cards := fill 6 CardEntry.default
  interval := 10
  scanNumber := 0
  scan := .idle
  due := false
  outstanding := none

/-- No flags. -/
def CellFlags.none : CellFlags := ⟨false, false, false, false, false⟩

/-- The reset values of the cell state record (R8). -/
def CellState.reset : CellState where
  resolved := none
  filtered := none
  quality := .void
  band := .normal
  flags := CellFlags.none
  zone := 0
  holdCount := 0
  riseCount := 0
  rateCount := 0
  disagreeCount := 0
  prevFiltered := none
  prevValid := false
  peak := none
  peakTag := 0
  scanNumber := 0

/-- The default binding (R6). -/
def Binding.default : Binding := ⟨none, none, .primary, true⟩

/-- A pass table entry after power-on and the reset pin (R3). -/
def PassEntry.default : PassEntry := ⟨32, none, false, 0, false⟩

/-- The default record of zone `z` (R103). -/
def ZoneRecord.default (z : ZoneNo) : ZoneRecord where
  enabled := z == 0
  passes := if z = 0 then 15 else 0
  first := 0
  last := 31
  watch := none
  alarm := none
  limit := none
  hysteresis := 20
  persistence := 3
  holdAllowance := 2
  weight := 16
  rateLimit := none
  discrepancy := none

/-- The control latch with nothing pending (R78). -/
def ControlLatch.empty : ControlLatch := ⟨fill 8 none, fill 4 none, fill 4 none⟩

/-- The pass summary after a reset or START, for a pass of `n` stations (R13). -/
def Summary.cleared (n : Nat) : Summary where
  scanNumber := 0
  timeTag := 0
  stations := n
  hottestStation := none
  hottestValue := none
  coolestStation := none
  coolestValue := none
  mean := none
  spread := none
  goodCount := 0
  heldCount := 0
  estimatedCount := 0
  voidCount := n
  held := false
  spreadFlag := false

/-- The cleared map for a pass table (R15). -/
def PublishedMap.cleared (passes : Vector PassEntry 4) : PublishedMap where
  summaries := tab fun p => Summary.cleared passes[p].stations
  cells := fill 128 CellState.reset

/-- The Map Engine after power-on and the reset pin (R3, R6, R8, R15, R73, R78, R103). -/
def MapEngine.reset : MapEngine where
  passes := fill 4 PassEntry.default
  bindings := fill 128 Binding.default
  cells := fill 128 CellState.reset
  zones := tab ZoneRecord.default
  latch := ControlLatch.empty
  computing := none
  waiting := none
  resumeMarker := false
  published := PublishedMap.cleared (fill 4 PassEntry.default)

/-- A pass trend record with its positions at the values of an emptied pass (R125, R136). -/
def PassTrend.emptied (config : TrendConfig) : PassTrend := ⟨config, 0, 0, .first, 0⟩

/-- The Trend Store after power-on and the reset pin (R125). -/
def Trend.reset : Trend := ⟨fill 256 none, fill 4 (PassTrend.emptied .off)⟩

/-- The log after power-on, the reset pin and RESTART (R139). -/
def Log.reset : Log := ⟨fill 256 none, 0, 0, 0⟩

/-- The Notice Unit after power-on and the reset pin (R152, R154, R157), with the POWER_ON flag as
given (R158). -/
def NoticeUnit.reset (powerOn : Bool) : NoticeUnit where
  queue := []
  kinds := fill 16 ⟨false, none⟩
  level := 2
  flags := ⟨powerOn, false, false, false⟩

/-- Every block at the value its chapter gives for power-on and the reset pin (R160), with the straps
read so and the POWER_ON flag as given. Nothing is in transit (log entry 6). -/
def State.afterReset (straps : Straps) (powerOn : Bool) (draws : Nat) (pending : List Instr) : State where
  powered := true
  resetPin := false
  link := Link.reset straps
  op := Operating.reset
  input := Input.reset
  map := MapEngine.reset
  trend := Trend.reset
  log := Log.reset
  notices := NoticeUnit.reset powerOn
  transit := []
  draws := draws
  pending := pending

/-- The straps at `State.reset`: DESIGN CHOICE, station address 1 and 9600 bit/s (log entry 1; unsafe). -/
def defaultStraps : Straps := ⟨1, .b9600⟩

/-- The part right after power-on (R160; log entry 2), with the straps of log entry 1 and no command
waiting. -/
def State.reset : State := State.afterReset defaultStraps true 0 []

/-! ### Reasons to stop -/

/-- The reasons for a fault. There is none: the spec names no event that stops the part, so no command
of the model faults (safe). -/
inductive Fault : Type
  deriving DecidableEq, Repr

/-- The reasons for a refusal. -/
inductive Refusal : Type where
  /-- The command of that mnemonic has no meaning in the model: raised only by an arm of `exec` that
  rejects by name; no arm does (safe). -/
  | notModelled (mnemonic : String)
  deriving DecidableEq, Repr

end Sys2Proof.Machine
end

