-- ==== Sys2Proof/Machine/Operands.lean ====
section
/-! DEFINITION. The fields of requests and replies on the links: their bytes (section 11.4) and the codes of the enumerations (section 11.6). -/

namespace Sys2Proof.Machine

/-! ### Reading a payload's fields: high byte first, offsets from the payload's first byte -/

/-- The one-byte field at offset `i`. -/
def u8 (pl : List Byte) (i : Nat) : Nat := (pl.getD i 0).toNat

/-- The two-byte unsigned field at offset `i`. -/
def u16 (pl : List Byte) (i : Nat) : Nat := u8 pl i * 256 + u8 pl (i + 1)

/-- The two-byte signed field at offset `i`. -/
def s16 (pl : List Byte) (i : Nat) : Int := (BitVec.ofNat 16 (u16 pl i)).toInt

/-- The four-byte field at offset `i`. -/
def u32 (pl : List Byte) (i : Nat) : Word32 := BitVec.ofNat 32 (u16 pl i * 65536 + u16 pl (i + 2))

/-- The four-byte signed field at offset `i` (an EMF). -/
def s32 (pl : List Byte) (i : Nat) : Int := (u32 pl i).toInt

/-- The two-byte signed field that means absent (sections 0.5 and 11.4). -/
def absent16 : Int := -32768

/-- The optional temperature field at offset `i`. -/
def opt16 (pl : List Byte) (i : Nat) : Option Int := if s16 pl i = absent16 then none else some (s16 pl i)

/-- A yes-or-no field: 1 yes, 0 no, any other value none of the two (R170). -/
def yesNo : Nat → Option Bool
  | 0 => some false
  | 1 => some true
  | _ => none

/-- The optional channel field at offset `i`: absent for 0xFF, a channel for 0 to 95, else out of range. -/
def optChannel (pl : List Byte) (i : Nat) : Option (Option ChannelNo) :=
  if u8 pl i = 255 then some none
  else if h : u8 pl i < 96 then some (some ⟨u8 pl i, h⟩) else none

/-- A number below `n`, if the field is one. -/
def below (n : Nat) (x : Nat) : Option (Fin n) := if h : x < n then some ⟨x, h⟩ else none

/-- Whether `x` lies from `lo` to `hi` inclusive. -/
def within (lo x hi : Int) : Bool := lo ≤ x && x ≤ hi

/-! ### Writing a reply's fields -/

/-- A one-byte field. -/
def put8 (n : Nat) : Byte := BitVec.ofNat 8 n

/-- A two-byte field, high byte first. -/
def put16 (x : Int) : List Byte :=
  [(BitVec.ofInt 16 x).extractLsb' 8 8, (BitVec.ofInt 16 x).extractLsb' 0 8]

/-- A four-byte field, high byte first. -/
def put32 (w : Word32) : List Byte :=
  [w.extractLsb' 24 8, w.extractLsb' 16 8, w.extractLsb' 8 8, w.extractLsb' 0 8]

/-- An optional two-byte signed field: −32768 when absent. -/
def putOpt16 (x : Option Int) : List Byte := put16 (x.getD absent16)

/-- An optional one-byte field: 0xFF when absent. -/
def putOpt8 (x : Option Nat) : Byte := put8 (x.getD 255)

/-- A yes-or-no field. -/
def putBool (b : Bool) : Byte := if b then 1 else 0

/-! ### Codes of the enumerations (section 11.6) -/

/-- The result codes (section 11.6). -/
inductive ResultCode where
  | done | unknown | format | range | state | permit | condition | config | conflict | gone
  deriving DecidableEq, Repr

/-- The code of a result. -/
def resultByte : ResultCode → Byte
  | .done => 0 | .unknown => 1 | .format => 2 | .range => 3 | .state => 4 | .permit => 5
  | .condition => 6 | .config => 7 | .conflict => 8 | .gone => 9

/-- The code of an operating state. -/
def opStateByte : OpState → Byte
  | .stopped => 0 | .running => 1 | .paused => 2

/-- The code of a quality. -/
def qualityCode : Quality → Nat
  | .good => 0 | .held => 1 | .estimated => 2 | .void => 3

/-- The code of a band. -/
def bandCode : Band → Nat
  | .normal => 0 | .watch => 1 | .alarm => 2 | .limit => 3 | .held => 4

/-- The code of a combine mode. -/
def combineByte : CombineMode → Byte
  | .primary => 0 | .mean => 1 | .higher => 2

/-- The combine mode of a code. -/
def combineOf : Nat → Option CombineMode
  | 0 => some .primary | 1 => some .mean | 2 => some .higher | _ => none

/-- The code of a health state. -/
def healthByte : Health → Byte
  | .disabled => 0 | .untested => 1 | .good => 2 | .suspect => 3 | .failed => 4

/-- The code of a reading status. -/
def statusByte : ReadingStatus → Byte
  | .none => 0 | .ok => 1 | .rangeLow => 2 | .rangeHigh => 3 | .burnout => 4 | .invalid => 5
  | .missing => 6 | .disabled => 7

/-- The code of a card's presence. -/
def presenceByte : Presence → Byte
  | .unused => 0 | .unknown => 1 | .present => 2 | .lost => 3

/-- The code of a cold-junction outcome. -/
def outcomeByte : CjOutcome → Byte
  | .none => 0 | .valid => 1 | .invalid => 2 | .noAnswer => 3

/-- The code of a trend mode. -/
def trendModeByte : TrendConfig → Byte
  | .off => 0 | .snapshot _ => 1 | .paired _ => 2 | .ring _ _ _ => 3

/-- The resolution of a code. -/
def resolutionOf : Nat → Option Resolution
  | 0 => some .ms10 | 1 => some .ms100 | 2 => some .s1 | _ => none

/-- The code of a control port rate. -/
def rateByte : PortRate → Byte
  | .b9600 => 0 | .b19200 => 1 | .b38400 => 2 | .b57600 => 3 | .b115200 => 4

/-- The record kinds in the order of R142. -/
def recordKinds : List RecordKind :=
  [.bandRise, .bandFall, .rateOn, .rateOff, .disagreeOn, .disagreeOff, .sourceLost, .sourceBack,
   .spreadOn, .spreadOff, .holdOn, .holdOff, .channelFailed, .channelRecovered, .cardLost, .cardBack]

/-- The code of a record kind: its place in the table of R142. -/
def recordKindByte (k : RecordKind) : Byte := put8 (recordKinds.idxOf k)

/-- The notice kinds in the order of R151. -/
def noticeKinds : List NoticeKind :=
  [.limitEntered, .alarmEntered, .rateHigh, .spreadHigh, .channelFailed, .channelRecovered, .cardLost,
   .disagree, .mapSkipped, .scanLate, .logHalf, .logWrap, .trendHalf, .trendWrap, .passClosed, .timeWrap]

/-- The code of a notice kind: its place in the table of R151. -/
def noticeKindByte (k : NoticeKind) : Byte := put8 (noticeKinds.idxOf k)

/-! ### The zone fields of ZONE_SET and ZONE_GET (section 11.5) -/

/-- The zone fields as sent. -/
def zoneBytes (z : ZoneRecord) : List Byte :=
  [putBool z.enabled, z.passes.setWidth 8, put8 z.first.val, put8 z.last.val]
    ++ putOpt16 z.watch ++ putOpt16 z.alarm ++ putOpt16 z.limit ++ put16 z.hysteresis
    ++ [put8 z.persistence, put8 z.holdAllowance, put8 z.weight]
    ++ putOpt16 z.rateLimit ++ putOpt16 z.discrepancy

/-! ### Reply layouts (section 11.6) -/

/-- A cell record of MAP_READ, 16 bytes; `f` is its flags byte. -/
def cellRecordBytes (station : Nat) (f : Byte) (c : CellState) : List Byte :=
  [put8 station, put8 (qualityCode c.quality), put8 (bandCode c.band), f, put8 c.zone.val, put8 c.holdCount]
    ++ putOpt16 c.resolved ++ putOpt16 c.filtered ++ putOpt16 c.peak ++ put32 c.peakTag

/-- A cell state of CELL_GET, 25 bytes. -/
def cellStateBytes (f : Byte) (c : CellState) : List Byte :=
  [put8 (qualityCode c.quality), put8 (bandCode c.band), f, put8 c.zone.val, put8 c.holdCount,
   put8 c.riseCount, put8 c.rateCount, put8 c.disagreeCount]
    ++ putOpt16 c.resolved ++ putOpt16 c.filtered ++ putOpt16 c.prevFiltered
    ++ [putBool c.prevValid] ++ putOpt16 c.peak ++ put32 c.peakTag ++ put32 c.scanNumber

/-- The statistics and counts in pass summary order, 14 bytes. -/
def statisticsBytes (m : Summary) : List Byte :=
  [putOpt8 (m.hottestStation.map Fin.val)] ++ putOpt16 m.hottestValue
    ++ [putOpt8 (m.coolestStation.map Fin.val)] ++ putOpt16 m.coolestValue
    ++ putOpt16 m.mean ++ putOpt16 m.spread
    ++ [put8 m.goodCount, put8 m.heldCount, put8 m.estimatedCount, put8 m.voidCount]

/-- A pass summary, 26 bytes. -/
def summaryBytes (p : PassNo) (m : Summary) : List Byte :=
  [put8 p.val] ++ put32 m.scanNumber ++ put32 m.timeTag ++ [put8 m.stations]
    ++ statisticsBytes m ++ [putBool m.held, putBool m.spreadFlag]

/-- The subject byte of a record. -/
def subjectByte : Subject → Byte
  | .cell i => put8 i.val
  | .channel c => put8 c.val
  | .card k => put8 k.val
  | .pass p => put8 p.val

/-- A log record, 19 bytes. -/
def recordBytes (r : Record) : List Byte :=
  put16 r.sequence.toNat ++ [recordKindByte r.body.kind] ++ put32 r.body.timeTag ++ put32 r.body.scanNumber
    ++ [subjectByte r.body.subject, putOpt8 (r.body.station.map Fin.val)] ++ putOpt16 r.body.value
    ++ [putOpt8 (r.body.bandBefore.map bandCode), putOpt8 (r.body.bandAfter.map bandCode),
        putOpt8 (r.body.zone.map Fin.val), putOpt8 (r.body.quality.map qualityCode)]

/-- A notice entry, 9 bytes; the parameter is sent as 0 for the kinds whose parameter is none. -/
def noticeBytes (e : QueueEntry) : List Byte :=
  [noticeKindByte e.notice.kind] ++ put16 (e.notice.parameter.getD 0) ++ [put8 e.repeats, putBool e.held]
    ++ put32 e.timeTag

end Sys2Proof.Machine
end

