-- ==== Sys2Proof/Machine/Flags.lean ====
section
/-! DEFINITION. Flags: the flag bytes of the links, the condition flags (R158) and the attention line (R157). -/

namespace Sys2Proof.Machine

/-- A byte with the bits of a list set, bit 0 first. -/
def bitsByte (bits : List Bool) : Byte :=
  bits.foldr (fun b w => (w <<< 1) ||| (if b then 1 else 0)) 0

/-- The flags byte of a cell (section 11.6). -/
def cellFlagsByte (f : CellFlags) : Byte := bitsByte [f.clamped, f.cjHeld, f.secondaryUsed, f.rate, f.disagree]

/-- The marks byte of a reading (section 11.6). -/
def marksByte (clamped cjHeld : Bool) : Byte := bitsByte [clamped, cjHeld]

/-- The condition flags byte (section 11.6). -/
def conditionByte (f : ConditionFlags) : Byte := bitsByte [f.powerOn, f.noticeLost, f.frameError, f.maintWrite]

/-- The level of a notice kind (R151). -/
def noticeLevel : NoticeKind → Nat
  | .limitEntered => 3
  | .alarmEntered | .rateHigh | .spreadHigh => 2
  | .channelFailed | .channelRecovered | .cardLost | .disagree | .mapSkipped | .scanLate => 1
  | .logHalf | .logWrap | .trendHalf | .trendWrap | .passClosed | .timeWrap => 0

/-- The block that emits a notice kind (R151). -/
def senderOf : NoticeKind → Sender
  | .limitEntered | .alarmEntered | .rateHigh | .spreadHigh | .disagree | .mapSkipped | .passClosed => .mapEngine
  | .channelFailed | .channelRecovered | .cardLost | .scanLate => .inputProcessor
  | .trendHalf | .trendWrap => .trendStore
  | .logHalf | .logWrap => .excursionLog
  | .timeWrap => .operatingControl

/-- The level of a queued entry. -/
def QueueEntry.level (e : QueueEntry) : Nat := noticeLevel e.notice.kind

/-- The part has its supply and is not held in reset: it takes requests and events (R160). -/
def State.operating (s : State) : Bool := s.powered && !s.resetPin

/-- The attention line is asserted: some queued entry has a level at or above the attention level
(R157), and the reset pin does not hold the line released (R160). Without supply it is released (log
entry 9). -/
def State.attentionLine (s : State) : Bool :=
  s.operating && s.notices.queue.any fun e => s.notices.level.val ≤ e.level

/-- A frame has ended as damaged: FRAME_ERROR is set (R158, R168). -/
def State.setFrameError (s : State) : State :=
  { s with notices := { s.notices with flags := { s.notices.flags with frameError := true } } }

/-- The maintenance port has had a request of a kind outside the read kinds answered DONE (R158). -/
def State.setMaintWrite (s : State) : State :=
  { s with notices := { s.notices with flags := { s.notices.flags with maintWrite := true } } }

end Sys2Proof.Machine
end

