-- ==== Sys2Proof/Machine/Ops.lean ====
section
/-! DEFINITION. The shared operations: ports and replies, the taking of notices and records, what is in transit, the indices of cells. -/

namespace Sys2Proof.Machine

/-! ### Cells of the grid (R1, R2) -/

/-- The pass of a cell index (R2). -/
def passOf (i : CellIndex) : PassNo := ⟨i.val / 32, by omega⟩

/-- The station of a cell index (R2). -/
def stationOf (i : CellIndex) : Station := ⟨i.val % 32, by omega⟩

/-- The cell index of a station of a pass (R2). -/
def cellAt (p : PassNo) (t : Station) : CellIndex := ⟨p.val * 32 + t.val, by omega⟩

/-- The position is present under the pass table: its station is below the active station count (R1). -/
def isPresent (passes : Vector PassEntry 4) (i : CellIndex) : Bool :=
  (stationOf i).val < passes[passOf i].stations

/-- The position is present in the published map (R14). -/
def PublishedMap.isPresent (m : PublishedMap) (i : CellIndex) : Bool :=
  (stationOf i).val < m.summaries[passOf i].stations

/-! ### Ports (R168, R171) -/

/-- The port's state. -/
def State.port (s : State) : Port → PortState
  | .control => s.link.control
  | .maintenance => s.link.maintenance

/-- The state with a port's state replaced. -/
def State.setPort (s : State) (p : Port) (q : PortState) : State :=
  match p with
  | .control => { s with link := { s.link with control := q } }
  | .maintenance => { s with link := { s.link with maintenance := q } }

/-- The port takes bytes: the part operates and the port is not replying (R160, R171). -/
def State.listening (s : State) (p : Port) : Bool := s.operating && (s.port p).reply.isNone

/-! ### The Notice Unit (R152 to R154) -/

/-- The place of a notice kind in the table of R151. -/
def noticeIndex (k : NoticeKind) : Fin 16 := ⟨noticeKinds.idxOf k, by cases k <;> decide⟩

/-- A repeat or occurrence count raised, staying at 255 (R153 to R155). -/
def saturate (n : Nat) : Nat := min 255 n

/-- Case 1 of R153: the notice offered is counted into the queued entry `q` of its matter. -/
def countInto (e q : QueueEntry) : QueueEntry :=
  { q with repeats := saturate (q.repeats + e.repeats), held := q.held || e.held }

/-- The lowest level present in the queue. -/
def lowestLevel (queue : List QueueEntry) : Nat := (queue.map QueueEntry.level).foldl min 3

/-- The queue without the oldest entry of its lowest level (R153, case 3). -/
def displace (queue : List QueueEntry) : List QueueEntry :=
  queue.eraseP fun e => e.level == lowestLevel queue

/-- The arrival rule of R153 for an entry as it would be added: the four cases in order. R155 offers a
released pending record through the same rule. -/
def NoticeUnit.offer (u : NoticeUnit) (e : QueueEntry) : NoticeUnit :=
  if u.queue.any fun q => q.notice == e.notice then
    { u with queue := u.queue.map fun q => if q.notice == e.notice then countInto e q else q }
  else if u.queue.length < 32 then
    { u with queue := u.queue ++ [e] }
  else if lowestLevel u.queue ≤ e.level then
    { u with queue := displace u.queue ++ [e], flags := { u.flags with noticeLost := true } }
  else
    { u with flags := { u.flags with noticeLost := true } }

/-- The pending record after a masked arrival (R154). -/
def countPending (timeTag : Word32) (n : Notice) : Option PendingRecord → PendingRecord
  | none => ⟨n.parameter, 1, timeTag⟩
  | some r => { r with parameter := n.parameter, count := saturate (r.count + 1) }

/-- A notice arrives at the Notice Unit: counted into the pending record of a masked kind (R154),
otherwise taken by R153. -/
def NoticeUnit.arrive (timeTag : Word32) (u : NoticeUnit) (n : Notice) : NoticeUnit :=
  let k := u.kinds[noticeIndex n.kind]
  if k.masked then
    { u with kinds := upd u.kinds (noticeIndex n.kind) fun k =>
        { k with pending := some (countPending timeTag n k.pending) } }
  else u.offer ⟨n, 1, false, timeTag⟩

/-! ### The Excursion Log (R143, R145) -/

/-- The next sequence (R139). -/
def Log.nextSequence (l : Log) : Word16 := l.oldest + BitVec.ofNat 16 l.count

/-- The log takes a record (R143). -/
def Log.take (l : Log) (b : RecordBody) : Log where
  slots := upd l.slots l.writePosition fun _ => some ⟨l.nextSequence, b⟩
  writePosition := l.writePosition + 1
  oldest := if l.count < 256 then l.oldest else l.oldest + 1
  count := if l.count < 256 then l.count + 1 else 256

/-- The notice the log emits when a record is taken at this write position (R145). -/
def Log.takeNotice (l : Log) : List Notice :=
  if l.writePosition = 127 then [⟨.logHalf, none⟩]
  else if l.writePosition = 255 then [⟨.logWrap, none⟩]
  else []

/-! ### What is sent and what arrives (R97, R135, R144, R145, R151) -/

/-- The log, the Notice Unit and what is in transit to them. -/
structure Flow where
  log : Log
  notices : NoticeUnit
  transit : List Sent
  deriving DecidableEq, Repr

/-- The part's flow. -/
def State.flow (s : State) : Flow := ⟨s.log, s.notices, s.transit⟩

/-- The state with its flow replaced. -/
def State.withFlow (s : State) (f : Flow) : State :=
  { s with log := f.log, notices := f.notices, transit := f.transit }

/-- The stream of a thing in transit: the Map Engine's records on their way to the log, or one sender's
notices on their way to the Notice Unit. Each stream keeps its order (R97, R144). -/
def Sent.stream : Sent → Option Sender
  | .record _ => none
  | .notice n => some (senderOf n.kind)

/-- A record reaches the log, which takes it at once (R143) and emits the notice of R145. -/
def Flow.logRecord (f : Flow) (b : RecordBody) : Flow :=
  { f with log := f.log.take b, transit := f.transit ++ f.log.takeNotice.map .notice }

/-- What arrives is taken by its block at once (R143, R151), with the time tag current. -/
def Flow.receive (timeTag : Word32) (f : Flow) : Sent → Flow
  | .record b => f.logRecord b
  | .notice n => { f with notices := f.notices.arrive timeTag n }

/-- The thing in transit that arrives next: the first of the stream of the thing that `choice` falls on
(log entry 5). Where anything is in transit, something arrives. -/
def Flow.next (f : Flow) (choice : Nat) : Option Sent :=
  (f.transit[choice % f.transit.length]?).bind fun x => f.transit.find? fun y => y.stream == x.stream

/-- One arrival, if anything is in transit. -/
def Flow.arrival (timeTag : Word32) (choice : Nat) (f : Flow) : Flow :=
  match f.next choice with
  | none => f
  | some x => Flow.receive timeTag { f with transit := f.transit.erase x } x

/-- So many arrivals, one after another. -/
def Flow.arrivals (timeTag : Word32) (choice : Nat → Nat) : Nat → Flow → Flow
  | 0, f => f
  | n + 1, f => Flow.arrivals timeTag choice n (f.arrival timeTag (choice n))

/-- The state with a flow to which the arrivals within one event are still to come: their number and their
order are free values (log entries 5 and 6). -/
def State.settle (s : State) (f : Flow) : State :=
  { s.withFlow (Flow.arrivals s.op.timeTag (Config.arrivalOrder s.draws) (Config.arrivalCount s.draws) f) with
    draws := s.draws + 1 }

/-- One emission at a reading or at a moment: its record is taken by the log then (R143, R150), its notice
is on its way to the Notice Unit. -/
def Flow.emitOne (f : Flow) : Sent → Flow
  | .record b => f.logRecord b
  | .notice n => { f with transit := f.transit ++ [.notice n] }

/-- The emissions of one event in their order, with the arrivals after each of them: one thing in transit may
arrive between two emissions of an event (R144). -/
def State.emit (s : State) (sent : List Sent) : State := sent.foldl (fun s x => s.settle (s.flow.emitOne x)) s

/-- The streams of a publication are on their way, with the arrivals within the event (R95, R97). -/
def State.send (s : State) (sent : List Sent) : State :=
  s.settle { s.flow with transit := s.transit ++ sent }

/-- A moment in which no command is taken: one thing in transit arrives, if there is one (log entry 16). -/
def State.idle (s : State) : State :=
  if s.operating && !s.transit.isEmpty then
    { s.withFlow (s.flow.arrival s.op.timeTag (Config.arrivalOrder s.draws 0)) with draws := s.draws + 1 }
  else s

end Sys2Proof.Machine
end

