-- ==== Sys2Proof/Machine/Link.lean ====
section
/-! DEFINITION. The Link Interface: frames and their check, replies, the checks on a request (R167 to R172). -/

namespace Sys2Proof.Machine

/-! ### Frames (R167) -/

/-- One bit of the check: the polynomial x^16 + x^12 + x^5 + 1, no reflection (R167). -/
def crcBit (c : Word16) : Word16 := if c.msb then (c <<< 1) ^^^ 0x1021 else c <<< 1

/-- One byte of the check, high bit first (R167). -/
def crcByte (c : Word16) (b : Byte) : Word16 :=
  crcBit (crcBit (crcBit (crcBit (crcBit (crcBit (crcBit (crcBit (c ^^^ (b.setWidth 16 <<< 8)))))))))

/-- The check over the address, kind, length and payload bytes: initial value 0xFFFF, no final inversion
(R167). -/
def crc (bytes : List Byte) : Word16 := bytes.foldl crcByte 0xFFFF

/-- The two check bytes, high byte first (R167). -/
def checkBytes (bytes : List Byte) : List Byte :=
  [(crc bytes).extractLsb' 8 8, (crc bytes).extractLsb' 0 8]

/-- The start byte (section 11.6). -/
def startByte : Byte := 0xA7

/-- A whole frame (R167, section 11.6). -/
def frameBytes (address kind : Byte) (payload : List Byte) : List Byte :=
  let body := [address, kind, put8 payload.length] ++ payload
  [startByte] ++ body ++ checkBytes body

/-! ### Answers and replies (R170, R171) -/

/-- What the owner of a request answers: a result code and what follows it. -/
structure Answer where
  code : ResultCode
  data : List Byte
  deriving DecidableEq, Repr

/-- The answer with a code and nothing after it, and the state as given. -/
def answer (code : ResultCode) (s : State) : Answer × State := (⟨code, []⟩, s)

/-- DONE with data after the code, and the state as given. -/
def doneWith (data : List Byte) (s : State) : Answer × State := (⟨.done, data⟩, s)

/-- The kind byte of a reply: the request kind plus 0x80 (R170). Where the sum does not fit the byte, the
reply's kind is a free value (log entry 4). -/
def replyKind (kind : Byte) : Byte :=
  if kind.toNat < 128 then kind + 0x80 else Config.replyKindAbove kind

/-- The reply frame of an answer (R167, R170). -/
def replyFrame (address kind : Byte) (a : Answer) : List Byte :=
  frameBytes address (replyKind kind) (resultByte a.code :: a.data)

/-- The port answers: its frame is over, and it is replying (R168, R171). -/
def State.sendReply (s : State) (p : Port) (kind : Byte) (a : Answer) : State :=
  s.setPort p ⟨.hunting, some (replyFrame s.link.stationAddress kind a)⟩

/-- The port is HUNTING with no bytes held, its reply as it was. -/
def State.hunt (s : State) (p : Port) : State := s.setPort p ⟨.hunting, (s.port p).reply⟩

/-! ### The permission table (R172) -/

/-- The place of a kind in the permission table. -/
def kindIndex (k : RequestKind) : Fin 37 := ⟨RequestKind.all.idxOf k, by cases k <;> decide⟩

/-- The permission table permits the kind on the maintenance port. -/
def Link.permitted (l : Link) (k : RequestKind) : Bool := l.permits[kindIndex k]

/-! ### Taking a request (R170) -/

/-- The payload length is a length the catalogue of section 11.5 gives for the kind (R170). -/
def lengthOk (k : RequestKind) (n : Nat) : Bool :=
  match k with
  | .identify | .status | .conditionsTake | .start | .resume | .logClear => n == 0
  | .stop | .pause | .restart | .timeResSet | .channelGet | .channelStatus | .curveGet | .cardStatus
  | .cellGet | .zoneGet | .holdPass | .releasePass | .clearPeaks | .passSummary | .noticeTake
  | .attentionSet => n == 1
  | .scanSet | .channelEnable | .noticeMaskSet | .permitSet => n == 2
  | .cardSet | .mapRead | .logRead => n == 3
  | .passSet | .trendRead => n == 4
  | .syncTime | .cellBind | .trendSet => n == 5
  | .channelSet => n == 12
  | .zoneSet => n == 20
  | .curveSet => 2 ≤ n && (n - 2) % 6 == 0

/-- A request of a kind outside the read kinds, taken from the maintenance port and answered DONE, sets
MAINT_WRITE (R158). -/
def State.noteWrite (s : State) (p : Port) (k : RequestKind) (code : ResultCode) : State :=
  if p = .maintenance && !isReadKind k && code = .done then s.setMaintWrite else s

/-- A request of a known kind is taken on a port (R170): PERMIT, then FORMAT, then its owner. A port that
is replying, and a part in reset or without supply, discards the frame (R160, R171). A PERMIT or FORMAT
reply carries nothing after its code, that of a LOG_READ neither, which is the model's reading of R147
against R170 (log entry 22). -/
def State.takeRequest (s : State) (p : Port) (k : RequestKind) (payload : List Byte)
    (serve : State → Answer × State) : State :=
  if !s.listening p then s
  else if p = .maintenance && !s.link.permitted k then s.sendReply p k.code ⟨.permit, []⟩
  else if !lengthOk k payload.length then s.sendReply p k.code ⟨.format, []⟩
  else
    let served := serve s
    (served.2.noteWrite p k served.1.code).sendReply p k.code served.1

end Sys2Proof.Machine
end

