-- ==== Sys2Proof/Machine/Rounding.lean ====
section
/-! DEFINITION. The one rounding rule of the part (00_scope 0.5, R56). -/

namespace Sys2Proof.Machine

/-- `round(n / d)` for a positive `d`: to the nearest integer, an exact half going toward positive
infinity, with `n / d` carried exactly (00_scope 0.5, R56). -/
def roundDiv (n d : Int) : Int := (2 * n + d) / (2 * d)

end Sys2Proof.Machine
end

