-- ==== Sys2Proof/Machine/Conversion.lean ====
section
/-! DEFINITION. Thermocouple conversion: the six stages (chapter 3), and channel health (chapter 4). -/

namespace Sys2Proof.Machine

/-- The segment of a loaded curve in which `x` lies by the key (EMF or temperature): the lowest segment
whose upper breakpoint is not below `x`, and the last segment above all of them (R48, R49, R51). -/
def segment (key : Breakpoint → Int) (x : Int) : List Breakpoint → Option (Breakpoint × Breakpoint)
  | a :: b :: rest => if x ≤ key b || rest.isEmpty then some (a, b) else segment key x (b :: rest)
  | _ => none

/-- Stage 2, the cold-junction EMF: the curve read backwards, its end segments extended (R48, R49). An
empty curve does not reach this stage (R47; log entry 13). -/
def coldJunctionEmf (curve : List Breakpoint) (t : Int) : Int :=
  match segment Breakpoint.temp t curve with
  | some (a, b) => a.emf + roundDiv ((t - a.temp) * (b.emf - a.emf)) (b.temp - a.temp)
  | none => 0

/-- Stage 4, the forward reading: the curve temperature and the status (R51, R52). An empty curve does
not reach this stage (R47; log entry 13). -/
def forwardReading (curve : List Breakpoint) (ec : Int) : Int × ReadingStatus :=
  match curve.head?, curve.getLast?, segment Breakpoint.emf ec curve with
  | some first, some last, some (a, b) =>
    if ec < first.emf then (first.temp, .rangeLow)
    else if last.emf < ec then (last.temp, .rangeHigh)
    else (a.temp + roundDiv ((ec - a.emf) * (b.temp - a.temp)) (b.emf - a.emf), .ok)
  | _, _, _ => (0, .ok)

/-- Stage 5, the trim (R53). -/
def trim (gain offset t : Int) : Int := roundDiv (t * gain) 10000 + offset

/-- Stage 6, the clamps: the channel value and whether it was limited (R54). -/
def clampTo (low high t : Int) : Int × Bool :=
  if t < low then (low, true) else if high < t then (high, true) else (t, false)

/-- The reading of a channel that gave no good value: no value and no marks (R47, R57). -/
def badReading (status : ReadingStatus) : Reading := ⟨status, none, false, false, false⟩

/-- The cold-junction temperature in force for a card: the last good one, or the substitute when it is
absent (R69). -/
def CardEntry.inForce (k : CardEntry) : Int := k.lastGood.getD k.substitute

/-- A conversion: the reading that a taken conversion answer gives its channel, before its health is
moved (R46 to R57). -/
def convert (e : ChannelEntry) (curve : List Breakpoint) (k : CardEntry) (emf : Int) (burnout : Bool) :
    Reading :=
  if burnout then badReading .burnout
  else if emf < -10000 || 80000 < emf then badReading .invalid
  else if curve.isEmpty then badReading .invalid
  else
    let ec := emf + coldJunctionEmf curve k.inForce
    let forward := forwardReading curve ec
    let value := clampTo e.lowClamp e.highClamp (trim e.gain e.offset forward.1)
    ⟨forward.2, some value.1, forward.2 != .ok || value.2, k.cjHeld, false⟩

/-- The good readings (R34, R59). -/
def ReadingStatus.isGood : ReadingStatus → Bool
  | .ok | .rangeLow | .rangeHigh => true
  | _ => false

/-- Health state and runs. -/
structure HealthMove where
  health : Health
  badRun : Nat
  goodRun : Nat

/-- The debounce of R60: the health state and runs after a good or bad reading. A DISABLED channel takes
no reading (R59) and is left as it is. -/
def moveHealth (good : Bool) (h : Health) (badRun goodRun : Nat) : HealthMove :=
  match h, good with
  | .disabled, _ => ⟨.disabled, badRun, goodRun⟩
  | .untested, true | .good, true | .suspect, true => ⟨.good, 0, 0⟩
  | .untested, false | .good, false => ⟨.suspect, 1, 0⟩
  | .suspect, false => if badRun < 2 then ⟨.suspect, badRun + 1, 0⟩ else ⟨.failed, 0, 0⟩
  | .failed, true => if goodRun < 2 then ⟨.failed, 0, goodRun + 1⟩ else ⟨.good, 0, 0⟩
  | .failed, false => ⟨.failed, 0, 0⟩

end Sys2Proof.Machine
end

