-- ==== Sys2Proof/Machine/Intake.lean ====
section
/-! DEFINITION. The Map Engine's intake and control latch: computation start, image arrival, abandonment (R73 to R82, R101). -/

namespace Sys2Proof.Machine

/-- The entry that a latch takes: one whose taken mark is clear (R81). -/
def fresh {α : Type} : Option (Entry α) → Option α
  | some e => if e.taken then none else some e.value
  | none => none

/-- The entry with its taken mark set (R81). -/
def markTaken {α : Type} (e : Option (Entry α)) : Option (Entry α) := e.map fun x => { x with taken := true }

/-- The entry with its taken mark clear (R82). -/
def clearTaken {α : Type} (e : Option (Entry α)) : Option (Entry α) := e.map fun x => { x with taken := false }

/-- The entry left when a computation completes: a taken one is removed (R81). -/
def removeTaken {α : Type} (e : Option (Entry α)) : Option (Entry α) := e.filter fun x => !x.taken

/-- A control written: its mark is clear, whatever the entry held before (R79). -/
def written {α : Type} (a : α) : Option (Entry α) := some ⟨a, false⟩

/-- An edit changes an edge or a limit of the record (R107). -/
def limitsDiffer (old new : ZoneRecord) : Bool :=
  old.watch != new.watch || old.alarm != new.alarm || old.limit != new.limit
    || old.rateLimit != new.rateLimit || old.discrepancy != new.discrepancy

/-- Every pending entry marked taken. -/
def ControlLatch.takeAll (l : ControlLatch) : ControlLatch where
  zoneEdits := tab fun z => markTaken l.zoneEdits[z]
  holds := tab fun p => markTaken l.holds[p]
  peakClears := tab fun p => markTaken l.peakClears[p]

/-- Every taken mark cleared (R82). -/
def ControlLatch.untakeAll (l : ControlLatch) : ControlLatch where
  zoneEdits := tab fun z => clearTaken l.zoneEdits[z]
  holds := tab fun p => clearTaken l.holds[p]
  peakClears := tab fun p => clearTaken l.peakClears[p]

/-- Every taken entry removed (R81). -/
def ControlLatch.dropTaken (l : ControlLatch) : ControlLatch where
  zoneEdits := tab fun z => removeTaken l.zoneEdits[z]
  holds := tab fun p => removeTaken l.holds[p]
  peakClears := tab fun p => removeTaken l.peakClears[p]

/-- The zone table after the latch (R81). -/
def MapEngine.latchedZones (m : MapEngine) : Vector ZoneRecord 8 :=
  tab fun z => (fresh m.latch.zoneEdits[z]).getD m.zones[z]

/-- The held field of a pass after the latch (R81). -/
def MapEngine.latchedHeld (m : MapEngine) (p : PassNo) : Bool :=
  (fresh m.latch.holds[p]).getD m.passes[p].held

/-- A computation starts on an image (R75): its latch, stage 1, takes every entry whose mark is clear and
applies it (R81); what an abandonment returns to is kept (R77). -/
def MapEngine.startComputation (m : MapEngine) (image : MarkedImage) : MapEngine :=
  let computation : Computation := {
    source := image
    limitsChanged := tab fun z =>
      (fresh m.latch.zoneEdits[z]).elim false fun edit => limitsDiffer m.zones[z] edit
    released := tab fun p => m.passes[p].held && !m.latchedHeld p
    clearPeaks := tab fun p => (fresh m.latch.peakClears[p]).isSome
    holdRecords := tab fun p =>
      if m.latchedHeld p = m.passes[p].held then none else some (m.latchedHeld p)
    savedZones := m.zones
    savedHeld := tab fun p => m.passes[p].held
    savedCells := m.cells }
  { m with
    zones := m.latchedZones
    passes := tab fun p => { m.passes[p] with held := m.latchedHeld p }
    cells := if image.resume then tab fun i => { m.cells[i] with prevValid := false } else m.cells
    latch := m.latch.takeAll
    computing := some computation }

/-- The Map Engine's work is abandoned (R101): a computation in flight ends without publication and the
zone table, held fields and working cells return to their contents before its latch; taken marks are
cleared; the waiting image is discarded and the resume marker cleared. -/
def MapEngine.abandon (m : MapEngine) : MapEngine :=
  match m.computing with
  | none => { m with waiting := none, resumeMarker := false }
  | some c =>
    { m with
      zones := c.savedZones
      passes := tab fun p => { m.passes[p] with held := c.savedHeld[p] }
      cells := c.savedCells
      latch := m.latch.untakeAll
      computing := none
      waiting := none
      resumeMarker := false }

/-- A scan image arrives at the intake (R74) and takes the intake's resume marker (R76). -/
def State.imageArrives (s : State) (image : ScanImage) : State :=
  let m := { s.map with resumeMarker := false }
  let arriving : MarkedImage := ⟨image, s.map.resumeMarker⟩
  match m.computing, m.waiting with
  | none, _ => { s with map := m.startComputation arriving }
  | some _, none => { s with map := { m with waiting := some arriving } }
  | some _, some old =>
    State.emit
      { s with map := { m with waiting := some { arriving with resume := arriving.resume || old.resume } } }
      [.notice ⟨.mapSkipped, some (old.image.number.toNat % 65536)⟩]

/-- The waiting image, if there is one, becomes the image under computation (R75). -/
def MapEngine.takeWaiting (m : MapEngine) : MapEngine :=
  match m.waiting with
  | none => m
  | some image => { m with waiting := none }.startComputation image

/-- The run state of the Map Engine after START and RESTART (R3, R8, R15, R73, R78): no pass held, no
peak clear pending, the intake empty, and the cells and the published map cleared. Bindings, zones, zone
edits and hold entries are kept. -/
def MapEngine.resetRun (m : MapEngine) : MapEngine :=
  let passes := tab fun p =>
    { m.passes[p] with held := false, spreadCount := 0, spreadFlag := false }
  { m with
    passes := passes
    cells := fill 128 CellState.reset
    latch := { m.latch with peakClears := fill 4 none }
    computing := none
    waiting := none
    resumeMarker := false
    published := PublishedMap.cleared passes }

end Sys2Proof.Machine
end

