-- ==== Sys2Proof/Machine/Scan.lean ====
section
/-! DEFINITION. The scan: open and close, readings, card presence, card requests, aborts, and the events of the card link and the interval timer (chapters 2 and 4). -/

namespace Sys2Proof.Machine

/-! ### Small updates of the Input Processor -/

/-- The state with a card entry changed. -/
def State.updCard (s : State) (k : CardNo) (f : CardEntry → CardEntry) : State :=
  { s with input := { s.input with cards := upd s.input.cards k f } }

/-- The state with the scan state replaced. -/
def State.setScan (s : State) (x : ScanState) : State := { s with input := { s.input with scan := x } }

/-- The state with the outstanding request replaced. -/
def State.setOutstanding (s : State) (o : Option Outstanding) : State :=
  { s with input := { s.input with outstanding := o } }

/-- A record of the Input Processor: it carries the number of the scan open and the time tag current
(R142), and no other field but a value. -/
def State.inputRecord (s : State) (kind : RecordKind) (subject : Subject) (value : Option Int) :
    RecordBody where
  kind := kind
  timeTag := s.op.timeTag
  scanNumber := s.input.scanNumber
  subject := subject
  station := none
  value := value
  bandBefore := none
  bandAfter := none
  zone := none
  quality := none

/-! ### Scan open (R28, R31, R32) -/

/-- The number after `n` (R32): 4294967295 is followed by 1. -/
def nextScanNumber (n : Word32) : Word32 := if n = 4294967295 then 1 else n + 1

/-- The enable field applied to a channel's health at the open of scan `number` (R28, R65). -/
def applyEnable (number : Word32) (e : ChannelEntry) : ChannelEntry :=
  if e.enabled then
    if e.health = .disabled then { e with health := .untested } else e
  else if e.health = .disabled then e
  else
    { e with
      health := .disabled, badRun := 0, goodRun := 0
      last := ⟨.disabled, none, false, false, number⟩ }

/-- The scan list: the enabled channels in ascending number (R31). -/
def scanList (channels : Vector ChannelEntry 96) : List ChannelNo :=
  (List.finRange 96).filter fun c => channels[c].enabled

/-- Some enabled channel names the card (R21). -/
def cardNamed (channels : Vector ChannelEntry 96) (k : CardNo) : Bool :=
  (scanList channels).any fun c => channels[c].card == k

/-- A card's presence at a scan open (R21). -/
def openPresence (named : Bool) (p : Presence) : Presence :=
  if !named then .unused else if p = .unused then .unknown else p

/-- A scan opens (R31): its number, time tag and interval, the healths, the scan list, the cards, a new
image, and the restarted timer (R38). -/
def State.openScan (s : State) : State :=
  let number := nextScanNumber s.input.scanNumber
  let channels := tab fun c => applyEnable number s.input.channels[c]
  { s with
    op := { s.op with timer := some s.input.interval }
    input := { s.input with
      scanNumber := number
      channels := channels
      cards := tab fun k =>
        { s.input.cards[k] with
          presence := openPresence (cardNamed channels k) s.input.cards[k].presence
          lostInScan := false }
      scan := .scanning {
        number := number
        timeTag := s.op.timeTag
        interval := s.input.interval
        remaining := scanList channels
        asked := fill 6 false
        readings := fill 96 none } } }

/-! ### Scan close (R35, R36, R37) -/

/-- The closed image of a scan: channels without a reading are off the list and DISABLED (R34, R35). -/
def closedImage (scan : OpenScan) : ScanImage where
  number := scan.number
  timeTag := scan.timeTag
  interval := scan.interval
  readings := tab fun c => scan.readings[c].getD (badReading .disabled)

/-- The open scan ends by closing: its image goes to the intake, and no scan is open (R36). -/
def State.deliverImage (s : State) : State :=
  match s.input.scan with
  | .scanning scan => (s.setScan .waiting).imageArrives (closedImage scan)
  | _ => s

/-- The request for the channel whose turn it is (R33): its card's cold junction before the scan's first
conversion on that card, else the conversion. While another request is outstanding it waits (R19, R41). -/
def State.sendFor (s : State) (c : ChannelNo) : State :=
  match s.input.scan, s.input.outstanding with
  | .scanning scan, none =>
    let e := s.input.channels[c]
    let request := if scan.asked[e.card] then CardRequest.conversion e.card e.input else .coldJunction e.card
    s.setOutstanding (some ⟨request, false⟩)
  | _, _ => s

/-- A scan opens and its first request goes out; with an empty scan list it closes at once (R31, R37). -/
def State.beginScan (s : State) : State :=
  let opened := s.openScan
  match scanList opened.input.channels with
  | [] => opened.deliverImage
  | c :: _ => opened.sendFor c

/-- Every channel of the scan list has its reading: the scan closes, and a late scan opens at once (R36). -/
def State.closeScan (s : State) : State :=
  let closed := s.deliverImage
  if closed.input.due then
    State.beginScan
      (State.emit { closed with input := { closed.input with due := false } } [.notice ⟨.scanLate, none⟩])
  else closed

/-! ### Readings (R33, R57, R60 to R65) -/

/-- The open scan with the reading of the channel whose turn it is. -/
def OpenScan.record (scan : OpenScan) (c : ChannelNo) (r : Reading) : OpenScan :=
  { scan with remaining := scan.remaining.tail, readings := upd scan.readings c fun _ => some r }

/-- The scan state with a reading written into the open scan's image. -/
def recordReading (c : ChannelNo) (r : Reading) : ScanState → ScanState
  | .scanning scan => .scanning (scan.record c r)
  | x => x

/-- What a reading's health move emits (R61, R62): a record and a notice of one kind of event. -/
def healthEvent (before after : Health) : Option (RecordKind × NoticeKind) :=
  if before = .suspect ∧ after = .failed then some (.channelFailed, .channelFailed)
  else if before = .failed ∧ after = .good then some (.channelRecovered, .channelRecovered)
  else none

/-- A reading is made for a channel (R33, R57): it moves the channel's health, its usable field is set
from the state after the move (R64), it is written into the image and the last reading (R65), and its
health record and notice are emitted, the record first. -/
def State.giveReading (s : State) (c : ChannelNo) (r : Reading) : State :=
  let e := s.input.channels[c]
  let move := moveHealth r.status.isGood e.health e.badRun e.goodRun
  let reading := { r with usable := move.health == .good }
  let written : State := { s with input := { s.input with
    channels := upd s.input.channels c fun e =>
      { e with
        health := move.health, badRun := move.badRun, goodRun := move.goodRun
        last := ⟨r.status, r.value, r.clamped, r.cjHeld, s.input.scanNumber⟩ }
    scan := recordReading c reading s.input.scan } }
  match healthEvent e.health move.health with
  | some (record, notice) =>
    written.emit [.record (s.inputRecord record (.channel c) r.value), .notice ⟨notice, some c.val⟩]
  | none => written

/-- The scan goes on with the channels that have no reading yet (R33): those of cards lost in the scan
are MISSING at once (R23), the next other one has its request sent, and after the last the scan closes. -/
def State.advance : List ChannelNo → State → State
  | [], s => s.closeScan
  | c :: rest, s =>
    if s.input.cards[s.input.channels[c].card].lostInScan then
      State.advance rest (s.giveReading c (badReading .missing))
    else s.sendFor c

/-- The open scan, if there is one, goes on. -/
def State.goOn (s : State) : State :=
  match s.input.scan with
  | .scanning scan => State.advance scan.remaining s
  | _ => s

/-! ### Card presence (R22, R23) -/

/-- A request to the card has been taken (R22): it is PRESENT, with a CARD_BACK record from LOST. -/
def State.cardAnswered (s : State) (k : CardNo) : State :=
  let present := s.updCard k fun e => { e with presence := .present }
  if s.input.cards[k].presence = .lost then
    present.emit [.record (s.inputRecord .cardBack (.card k) none)]
  else present

/-- A request to the card has timed out (R23): it is lost in the scan, and LOST with a CARD_LOST record
and notice where it was not. -/
def State.cardTimedOut (s : State) (k : CardNo) : State :=
  let lost := s.updCard k fun e => { e with presence := .lost, lostInScan := true }
  if s.input.cards[k].presence = .lost then lost
  else lost.emit [.record (s.inputRecord .cardLost (.card k) none), .notice ⟨.cardLost, some k.val⟩]

/-! ### Cold junction of a card (R67, R68) -/

/-- A cold-junction temperature is valid: −400 to 1250 (R68). -/
def validColdJunction (t : Int) : Bool := -400 ≤ t && t ≤ 1250

/-- The card's cold-junction fields after a taken answer (R68). -/
def CardEntry.coldJunctionTaken (t : Int) (e : CardEntry) : CardEntry :=
  if validColdJunction t then { e with lastGood := some t, cjHeld := false, outcome := .valid }
  else { e with cjHeld := true, outcome := .invalid }

/-- The card's cold-junction fields after an expired request (R68). -/
def CardEntry.coldJunctionMissed (e : CardEntry) : CardEntry :=
  { e with cjHeld := true, outcome := .noAnswer }

/-- The open scan with the card's cold junction answered. -/
def markAsked (k : CardNo) : ScanState → ScanState
  | .scanning scan => .scanning { scan with asked := upd scan.asked k fun _ => true }
  | x => x

/-! ### The events of the card link (R20, R33, R41, R68, R70) -/

/-- The channel whose turn it is in the open scan. -/
def State.currentChannel (s : State) : Option ChannelNo :=
  match s.input.scan with
  | .scanning scan => scan.remaining.head?
  | _ => none

/-- A conversion answer matching the outstanding request of the open scan is taken (R20, R22, R33). -/
def State.conversionTaken (s : State) (card : CardNo) (emf : Int) (burnout : Bool) : State :=
  match s.currentChannel with
  | none => s
  | some c =>
    let answered := s.cardAnswered card
    let e := answered.input.channels[c]
    (answered.giveReading c (convert e answered.input.curves[e.curve] answered.input.cards[card] emf burnout)).goOn

/-- A conversion answer arrives (R20, R33, R41). -/
def State.conversionArrives (s : State) (sound : Bool) (card : CardNo) (input : Fin 16) (emf : Int)
    (burnout : Bool) : State :=
  match s.input.outstanding with
  | some o =>
    if sound && o.request = .conversion card input then
      if o.aborted then (s.setOutstanding none).goOn
      else (s.setOutstanding none).conversionTaken card emf burnout
    else s
  | none => s

/-- A cold-junction answer matching the outstanding request of the open scan is taken: it moves the
card's fields and presence, and the scan goes on with the conversion request (R22, R33, R68). -/
def State.coldJunctionTaken (s : State) (card : CardNo) (t : Int) : State :=
  let answered := (s.cardAnswered card).updCard card (CardEntry.coldJunctionTaken t)
  (answered.setScan (markAsked card answered.input.scan)).goOn

/-- A cold-junction answer arrives (R20, R68, R70). -/
def State.coldJunctionArrives (s : State) (sound : Bool) (card : CardNo) (t : Int) : State :=
  match s.input.outstanding with
  | some o =>
    if sound && o.request = .coldJunction card then
      if o.aborted then (s.setOutstanding none).goOn
      else (s.setOutstanding none).coldJunctionTaken card t
    else s
  | none => s

/-- The card of a request. -/
def CardRequest.card : CardRequest → CardNo
  | .conversion k _ => k
  | .coldJunction k => k

/-- The card's entry after a request to it has timed out (R68): a cold-junction request moves its fields. -/
def State.requestMissed (s : State) : CardRequest → State
  | .conversion _ _ => s
  | .coldJunction k => s.updCard k CardEntry.coldJunctionMissed

/-- The answer period of the outstanding request of the open scan expires: the card is lost for the scan,
the channel whose turn it is is MISSING, and the scan goes on (R23, R33, R62). -/
def State.requestTimedOut (s : State) (r : CardRequest) : State :=
  let timedOut := (s.requestMissed r).cardTimedOut r.card
  match timedOut.currentChannel with
  | none => timedOut
  | some c => (timedOut.giveReading c (badReading .missing)).goOn

/-- The answer period expires (R20, R23, R41). With no request outstanding there is none to expire. -/
def State.answerPeriodExpires (s : State) : State :=
  match s.input.outstanding with
  | some o =>
    if o.aborted then (s.setOutstanding none).goOn
    else (s.setOutstanding none).requestTimedOut o.request
  | none => s

/-! ### The interval timer and aborts (R38, R40, R41) -/

/-- The scan interval timer expires and starts again with the same interval (R38). A stopped timer does
not expire. -/
def State.timerExpires (s : State) : State :=
  match s.op.timer, s.input.scan with
  | some _, .waiting => s.beginScan
  | some _, .scanning _ => { s with input := { s.input with due := true } }
  | _, _ => s

/-- The scan work is aborted (R40): no scan is open, the due marker is clear, the timer is stopped, and
an outstanding request belongs to an aborted scan (R41). -/
def State.abortScan (s : State) : State :=
  { s with
    op := { s.op with timer := none }
    input := { s.input with
      scan := .idle
      due := false
      outstanding := s.input.outstanding.map fun o => { o with aborted := true } } }

/-- A channel's health fields after START and RESTART (R58, R65). -/
def ChannelEntry.resetRun (e : ChannelEntry) : ChannelEntry :=
  { e with
    health := if e.enabled then .untested else .disabled
    badRun := 0, goodRun := 0, last := LastReading.reset }

/-- A card's run state after START and RESTART (R21, R67): the substitute is kept. -/
def CardEntry.resetRun (named : Bool) (e : CardEntry) : CardEntry where
  presence := if named then .unknown else .unused
  lostInScan := false
  lastGood := none
  cjHeld := false
  outcome := .none
  substitute := e.substitute

/-- The run state of the Input Processor after START and RESTART (R21, R58, R65, R67). -/
def Input.resetRun (x : Input) : Input :=
  { x with
    channels := tab fun c => x.channels[c].resetRun
    cards := tab fun k => x.cards[k].resetRun (cardNamed x.channels k) }

end Sys2Proof.Machine
end

