-- ==== Sys2Proof/Machine/InputRequests.lean ====
section
/-! DEFINITION. The requests of the Input Processor: the scan interval, channels, curve sets and cards (chapters 2 to 4). -/

namespace Sys2Proof.Machine

/-- Another enabled channel than `c` names the card and input (R25). -/
def routingConflict (channels : Vector ChannelEntry 96) (c : ChannelNo) (card : CardNo) (input : Fin 16) :
    Bool :=
  (List.finRange 96).any fun k =>
    k != c && channels[k].enabled && channels[k].card == card && channels[k].input == input

/-- The state with a channel entry changed. -/
def State.updChannel (s : State) (c : ChannelNo) (f : ChannelEntry → ChannelEntry) : State :=
  { s with input := { s.input with channels := upd s.input.channels c f } }

/-- SCAN_SET's owner (R39). -/
def serveScanSet (pl : List Byte) (s : State) : Answer × State :=
  if within 5 (u16 pl 0) 600 then answer .done { s with input := { s.input with interval := u16 pl 0 } }
  else answer .range s

/-- CHANNEL_SET's trim and clamps are in range (R26). -/
def channelSettingsOk (gain offset low high : Int) : Bool :=
  within 9000 gain 11000 && within (-500) offset 500 && within (-500) low 12000
    && within (-500) high 12000 && low < high

/-- CHANNEL_SET's owner (R26). -/
def serveChannelSet (pl : List Byte) (s : State) : Answer × State :=
  if s.op.state ≠ .stopped then answer .state s
  else
    match below 96 (u8 pl 0), below 6 (u8 pl 1), below 16 (u8 pl 2), below 4 (u8 pl 3) with
    | some c, some card, some input, some curve =>
      if !channelSettingsOk (s16 pl 4) (s16 pl 6) (s16 pl 8) (s16 pl 10) then answer .range s
      else if s.input.channels[c].enabled && routingConflict s.input.channels c card input then
        answer .conflict s
      else answer .done (s.updChannel c fun e =>
        { e with
          card := card, input := input, curve := curve
          gain := s16 pl 4, offset := s16 pl 6, lowClamp := s16 pl 8, highClamp := s16 pl 10 })
    | _, _, _, _ => answer .range s

/-- CHANNEL_ENABLE's owner (R27). -/
def serveChannelEnable (pl : List Byte) (s : State) : Answer × State :=
  match below 96 (u8 pl 0), yesNo (u8 pl 1) with
  | some c, some enable =>
    let e := s.input.channels[c]
    if enable && !e.enabled && routingConflict s.input.channels c e.card e.input then answer .conflict s
    else answer .done (s.updChannel c fun e => { e with enabled := enable })
  | _, _ => answer .range s

/-- The reply data of CHANNEL_GET (R29, section 11.5). -/
def channelGetBytes (c : ChannelNo) (e : ChannelEntry) : List Byte :=
  [put8 c.val, put8 e.card.val, put8 e.input.val, putBool e.enabled, put8 e.curve.val]
    ++ put16 e.gain ++ put16 e.offset ++ put16 e.lowClamp ++ put16 e.highClamp

/-- CHANNEL_GET's owner (R29). -/
def serveChannelGet (pl : List Byte) (s : State) : Answer × State :=
  match below 96 (u8 pl 0) with
  | some c => doneWith (channelGetBytes c s.input.channels[c]) s
  | none => answer .range s

/-- The reply data of CHANNEL_STATUS (R66, section 11.5). -/
def channelStatusBytes (c : ChannelNo) (e : ChannelEntry) : List Byte :=
  [put8 c.val, putBool e.enabled, healthByte e.health, put8 e.badRun, put8 e.goodRun, statusByte e.last.status]
    ++ putOpt16 e.last.value ++ [marksByte e.last.clamped e.last.cjHeld] ++ put32 e.last.scanNumber

/-- CHANNEL_STATUS's owner (R66). -/
def serveChannelStatus (pl : List Byte) (s : State) : Answer × State :=
  match below 96 (u8 pl 0) with
  | some c => doneWith (channelStatusBytes c s.input.channels[c]) s
  | none => answer .range s

/-- The list strictly increases. -/
def increasing : List Int → Bool
  | a :: b :: rest => a < b && increasing (b :: rest)
  | _ => true

/-- The breakpoints of a CURVE_SET payload (section 11.5). -/
def payloadBreakpoints (pl : List Byte) : List Breakpoint :=
  (List.range (u8 pl 1)).map fun i => ⟨s32 pl (2 + 6 * i), s16 pl (6 + 6 * i)⟩

/-- The breakpoints may form a loaded curve set (R42, R43). -/
def curveOk (curve : List Breakpoint) : Bool :=
  2 ≤ curve.length && curve.length ≤ 12
    && curve.all (fun b => within (-10000) b.emf 80000) && increasing (curve.map Breakpoint.emf)
    && curve.all (fun b => within (-500) b.temp 12000) && increasing (curve.map Breakpoint.temp)

/-- CURVE_SET's owner (R43). -/
def serveCurveSet (pl : List Byte) (s : State) : Answer × State :=
  if s.op.state ≠ .stopped then answer .state s
  else if pl.length ≠ 2 + 6 * u8 pl 1 then answer .format s
  else
    match below 4 (u8 pl 0) with
    | none => answer .range s
    | some n =>
      let curve := payloadBreakpoints pl
      if curveOk curve then
        answer .done { s with input := { s.input with curves := upd s.input.curves n fun _ => curve } }
      else answer .range s

/-- The reply data of CURVE_GET (R45, section 11.5). -/
def curveGetBytes (n : Fin 4) (curve : List Breakpoint) : List Byte :=
  [put8 n.val, put8 curve.length] ++ curve.flatMap fun b => put32 (BitVec.ofInt 32 b.emf) ++ put16 b.temp

/-- CURVE_GET's owner (R45). -/
def serveCurveGet (pl : List Byte) (s : State) : Answer × State :=
  match below 4 (u8 pl 0) with
  | some n => doneWith (curveGetBytes n s.input.curves[n]) s
  | none => answer .range s

/-- CARD_SET's owner (R71). -/
def serveCardSet (pl : List Byte) (s : State) : Answer × State :=
  if s.op.state ≠ .stopped then answer .state s
  else
    match below 6 (u8 pl 0) with
    | none => answer .range s
    | some k =>
      if within (-400) (s16 pl 1) 1250 then
        answer .done (s.updCard k fun e => { e with substitute := s16 pl 1 })
      else answer .range s

/-- The reply data of CARD_STATUS (R72, section 11.5). -/
def cardStatusBytes (k : CardNo) (e : CardEntry) : List Byte :=
  [put8 k.val, presenceByte e.presence, putBool e.lostInScan] ++ putOpt16 e.lastGood
    ++ [putBool e.cjHeld, outcomeByte e.outcome] ++ put16 e.substitute

/-- CARD_STATUS's owner (R72). -/
def serveCardStatus (pl : List Byte) (s : State) : Answer × State :=
  match below 6 (u8 pl 0) with
  | some k => doneWith (cardStatusBytes k s.input.cards[k]) s
  | none => answer .range s

/-! ### The commands -/

/-- SCAN_SET (R39). -/
def execScanSet (p : Port) (pl : List Byte) (s : State) : Host.Outcome State Fault Refusal :=
  .next (s.takeRequest p .scanSet pl (serveScanSet pl))

/-- CHANNEL_SET (R26). -/
def execChannelSet (p : Port) (pl : List Byte) (s : State) : Host.Outcome State Fault Refusal :=
  .next (s.takeRequest p .channelSet pl (serveChannelSet pl))

/-- CHANNEL_ENABLE (R27). -/
def execChannelEnable (p : Port) (pl : List Byte) (s : State) : Host.Outcome State Fault Refusal :=
  .next (s.takeRequest p .channelEnable pl (serveChannelEnable pl))

/-- CHANNEL_GET (R29). -/
def execChannelGet (p : Port) (pl : List Byte) (s : State) : Host.Outcome State Fault Refusal :=
  .next (s.takeRequest p .channelGet pl (serveChannelGet pl))

/-- CHANNEL_STATUS (R66). -/
def execChannelStatus (p : Port) (pl : List Byte) (s : State) : Host.Outcome State Fault Refusal :=
  .next (s.takeRequest p .channelStatus pl (serveChannelStatus pl))

/-- CURVE_SET (R43). -/
def execCurveSet (p : Port) (pl : List Byte) (s : State) : Host.Outcome State Fault Refusal :=
  .next (s.takeRequest p .curveSet pl (serveCurveSet pl))

/-- CURVE_GET (R45). -/
def execCurveGet (p : Port) (pl : List Byte) (s : State) : Host.Outcome State Fault Refusal :=
  .next (s.takeRequest p .curveGet pl (serveCurveGet pl))

/-- CARD_SET (R71). -/
def execCardSet (p : Port) (pl : List Byte) (s : State) : Host.Outcome State Fault Refusal :=
  .next (s.takeRequest p .cardSet pl (serveCardSet pl))

/-- CARD_STATUS (R72). -/
def execCardStatus (p : Port) (pl : List Byte) (s : State) : Host.Outcome State Fault Refusal :=
  .next (s.takeRequest p .cardStatus pl (serveCardStatus pl))

end Sys2Proof.Machine
end

