-- ==== Sys2Proof/Machine/Cells.lean ====
section
/-! DEFINITION. Stages 2 to 6 of a computation: governing zone, source resolution and holding, estimation, filter, peak. -/

namespace Sys2Proof.Machine

/-! ### Stage 2: governing zone -/

/-- The zone covers the cell (R106). -/
def covers (zones : Vector ZoneRecord 8) (i : CellIndex) (z : ZoneNo) : Bool :=
  let r := zones[z]
  r.enabled && r.passes.getLsbD (passOf i).val && r.first ≤ stationOf i && stationOf i ≤ r.last

/-- The governing zone: the highest-numbered enabled zone covering the cell, zone 0 covering all (R106). -/
def governingZone (zones : Vector ZoneRecord 8) (i : CellIndex) : ZoneNo :=
  ([7, 6, 5, 4, 3, 2, 1].find? fun z => covers zones i z).getD 0

/-- Stage 2 on one cell (R106, R107). -/
def applyZone (zones : Vector ZoneRecord 8) (limitsChanged : Vector Bool 8) (i : CellIndex)
    (c : CellState) : CellState :=
  let z := governingZone zones i
  if z ≠ c.zone || limitsChanged[z] then
    { c with zone := z, riseCount := 0, rateCount := 0, disagreeCount := 0 }
  else { c with zone := z }

/-! ### Stage 3: source resolution and holding -/

/-- What a source gives a cell (R83): its value and the three flags it sets. -/
structure Source where
  value : Int
  clamped : Bool
  cjHeld : Bool
  secondaryUsed : Bool
  deriving DecidableEq, Repr

/-- A channel's reading, where it is usable (R64, R83). -/
def usableReading (readings : Vector Reading 96) (c : Option ChannelNo) : Option (Int × Reading) :=
  c.bind fun k => if readings[k].usable then readings[k].value.map fun v => (v, readings[k]) else none

/-- The source that one reading gives. -/
def sourceOf (r : Int × Reading) (secondaryUsed : Bool) : Source :=
  ⟨r.1, r.2.clamped, r.2.cjHeld, secondaryUsed⟩

/-- Both channels of the cell are usable: the source by the combine mode (R83). -/
def combineSources (mode : CombineMode) (a b : Int × Reading) : Source :=
  match mode with
  | .primary => sourceOf a false
  | .mean => ⟨roundDiv (a.1 + b.1) 2, a.2.clamped || b.2.clamped, a.2.cjHeld || b.2.cjHeld, false⟩
  | .higher => if b.1 ≤ a.1 then sourceOf a false else sourceOf b false

/-- The source of a cell, if it has one (R83). -/
def cellSource (b : Binding) (readings : Vector Reading 96) : Option Source :=
  match usableReading readings b.primary, usableReading readings b.secondary with
  | some x, some y => some (combineSources b.combine x y)
  | some x, none => some (sourceOf x false)
  | none, some y => some (sourceOf y true)
  | none, none => none

/-- The cell rests on a thermocouple: GOOD or HELD (R9). -/
def CellState.counted (c : CellState) : Bool := c.quality == .good || c.quality == .held

/-- Stage 3 on one cell, with the hold allowance of its governing zone (R83 to R85). A cell that passes
to stage 4 stands at VOID until that stage has estimated it. -/
def resolveCell (holdAllowance : Nat) (b : Binding) (readings : Vector Reading 96) (c : CellState) :
    CellState :=
  match cellSource b readings with
  | some src =>
    { c with
      quality := .good, resolved := some src.value, holdCount := 0
      flags := { c.flags with
        clamped := src.clamped, cjHeld := src.cjHeld, secondaryUsed := src.secondaryUsed } }
  | none =>
    if b.primary.isSome && c.counted && c.holdCount < holdAllowance then
      { c with quality := .held, holdCount := c.holdCount + 1 }
    else { c with quality := .void }

/-! ### Stage 4: estimation -/

/-- The value a station of a pass has as an anchor after stage 3 (R86). -/
def anchorValue (passes : Vector PassEntry 4) (cells : Vector CellState 128) (p : PassNo) (t : Station) :
    Option Int :=
  let i := cellAt p t
  if isPresent passes i && cells[i].counted then cells[i].resolved else none

/-- The nearest anchor below a station: its station and value. -/
def anchorBelow (passes : Vector PassEntry 4) (cells : Vector CellState 128) (p : PassNo) (t : Station) :
    Option (Int × Int) :=
  ((List.finRange 32).filter (· < t)).reverse.findSome? fun u =>
    (anchorValue passes cells p u).map fun v => ((u.val : Int), v)

/-- The nearest anchor above a station: its station and value. -/
def anchorAbove (passes : Vector PassEntry 4) (cells : Vector CellState 128) (p : PassNo) (t : Station) :
    Option (Int × Int) :=
  ((List.finRange 32).filter (t < ·)).findSome? fun u =>
    (anchorValue passes cells p u).map fun v => ((u.val : Int), v)

/-- The estimate between the nearest anchors, each a station and a value (R86). -/
def estimate (s : Int) : Option (Int × Int) → Option (Int × Int) → Option Int
  | some (i, vi), some (j, vj) => some (vi + roundDiv ((vj - vi) * (s - i)) (j - i))
  | some (_, vi), none => some vi
  | none, some (_, vj) => some vj
  | none, none => none

/-- Stage 4 on one cell, the anchors as stage 3 left them in `cells` (R86, R87). -/
def estimateCell (passes : Vector PassEntry 4) (cells : Vector CellState 128) (i : CellIndex)
    (c : CellState) : CellState :=
  if c.counted then c
  else
    let p := passOf i
    let t := stationOf i
    let e := estimate t.val (anchorBelow passes cells p t) (anchorAbove passes cells p t)
    { c with
      quality := if e.isSome then .estimated else .void
      resolved := e
      flags := { c.flags with clamped := false, cjHeld := false, secondaryUsed := false } }

/-! ### Stage 5: filter -/

/-- The new filtered value (R88). -/
def filterValue (released : Bool) (weight : Nat) (prev resolved : Option Int) : Option Int :=
  match resolved, prev with
  | none, _ => none
  | some new, none => some new
  | some new, some old => if released then some new else some (old + roundDiv ((new - old) * weight) 16)

/-- Stage 5 on one cell (R88). A VOID cell has no resolved value after stage 4. -/
def filterCell (released : Bool) (weight : Nat) (c : CellState) : CellState :=
  { c with
    prevFiltered := c.filtered
    filtered := filterValue released weight c.filtered c.resolved }

/-! ### Stage 6: peak -/

/-- The filtered value stands above the peak, or there is no peak (R90). -/
def abovePeak (filtered peak : Option Int) : Bool :=
  match peak, filtered with
  | none, _ => true
  | some p, some f => p < f
  | some _, none => false

/-- Stage 6 on one cell: R91 for a pass marked for peak clearing, R90 otherwise. -/
def peakCell (clear : Bool) (timeTag : Word32) (c : CellState) : CellState :=
  if clear then
    if c.counted then { c with peak := c.filtered, peakTag := timeTag }
    else { c with peak := none, peakTag := 0 }
  else if c.counted && abovePeak c.filtered c.peak then
    { c with peak := c.filtered, peakTag := timeTag }
  else c

end Sys2Proof.Machine
end

