-- ==== Sys2Proof/Machine/Bands.lean ====
section
/-! DEFINITION. Stage 7: band classification, the rate check and the disagreement check, with the records and notices of a cell (chapter 6). -/

namespace Sys2Proof.Machine

/-! ### Bands (R109 to R112) -/

/-- The place of a band in the order NORMAL, WATCH, ALARM, LIMIT (R10). HELD is outside the order. -/
def bandRank : Band → Nat
  | .normal => 0 | .watch => 1 | .alarm => 2 | .limit => 3 | .held => 0

/-- The edge of a band is present and not above the value (R109). -/
def reaches (edge : Option Int) (f : Int) : Bool := edge.elim false fun e => e ≤ f

/-- The edge of a band is present and the value is at or above it less the hysteresis (R111). -/
def keeps (edge : Option Int) (h : Nat) (f : Int) : Bool := edge.elim false fun e => e - h ≤ f

/-- The candidate band (R109). -/
def candidateBand (z : ZoneRecord) (f : Int) : Band :=
  if reaches z.limit f then .limit
  else if reaches z.alarm f then .alarm
  else if reaches z.watch f then .watch
  else .normal

/-- The fall of R111: the highest band, from the present one down, that the value still keeps. -/
def fallBand (z : ZoneRecord) (f : Int) (b : Band) : Band :=
  if b = .limit && keeps z.limit z.hysteresis f then .limit
  else if 2 ≤ bandRank b && keeps z.alarm z.hysteresis f then .alarm
  else if 1 ≤ bandRank b && keeps z.watch z.hysteresis f then .watch
  else .normal

/-- The rise of R110 or the fall of R111: the band and the rise counter after it. -/
def riseOrFall (z : ZoneRecord) (f : Int) (b : Band) (rise : Nat) : Band × Nat :=
  let c := candidateBand z f
  if bandRank b < bandRank c then
    if z.persistence ≤ rise + 1 then (c, 0) else (b, rise + 1)
  else (fallBand z f b, 0)

/-- The cap of R112. -/
def capBand (q : Quality) (b : Band) : Band :=
  if q = .estimated && 2 ≤ bandRank b then .watch else b

/-! ### Checks with persistence (R119, R121, R123) -/

/-- The table shared by the rate, disagreement and spread checks: the counter and the flag after the
check has found the quantity above its limit or not. -/
def stepCheck (persistence : Nat) (above : Bool) (count : Nat) (flag : Bool) : Nat × Bool :=
  match flag, above with
  | false, true => (count + 1, persistence ≤ count + 1)
  | false, false => (0, false)
  | true, true => (count, true)
  | true, false => (0, false)

/-- The rate of rise in 0.1 °C per minute (R119). -/
def rateOf (interval : Nat) (filtered previous : Int) : Int := roundDiv ((filtered - previous) * 60) interval

/-- The rate and the limit it is checked against, where the rate check runs for a cell that is not VOID
and not held (R119). -/
def rateInput (z : ZoneRecord) (interval : Nat) (c : CellState) : Option (Int × Int) :=
  if c.quality = .good && c.prevValid then
    match z.rateLimit, c.filtered, c.prevFiltered with
    | some limit, some f, some p => some (rateOf interval f p, limit)
    | _, _, _ => none
  else none

/-- The rate counter and RATE flag after stage 7 of a cell that is not VOID and not held (R119). -/
def rateCheck (z : ZoneRecord) (interval : Nat) (c : CellState) : Nat × Bool :=
  match rateInput z interval c with
  | some (rate, limit) => stepCheck z.persistence (limit < rate) c.rateCount c.flags.rate
  | none => (0, c.flags.rate)

/-- The difference of the two readings and the limit it is checked against, where the disagreement check
runs for a cell that is not VOID and not held (R121). -/
def disagreeInput (z : ZoneRecord) (b : Binding) (readings : Vector Reading 96) : Option (Int × Int) :=
  match z.discrepancy, usableReading readings b.primary, usableReading readings b.secondary with
  | some limit, some x, some y => some (((x.1 - y.1).natAbs : Int), limit)
  | _, _, _ => none

/-- The disagree counter and DISAGREE flag after stage 7 of a cell that is not VOID and not held (R121). -/
def disagreeCheck (z : ZoneRecord) (b : Binding) (readings : Vector Reading 96) (c : CellState) :
    Nat × Bool :=
  match disagreeInput z b readings with
  | some (difference, limit) => stepCheck z.persistence (limit < difference) c.disagreeCount c.flags.disagree
  | none => (c.disagreeCount, c.flags.disagree)

/-! ### Stage 7 on one cell (R108) -/

/-- The cell with the given band, its three counters at 0 and RATE and DISAGREE clear. -/
def clearedChecks (b : Band) (c : CellState) : CellState :=
  { c with
    band := b, riseCount := 0, rateCount := 0, disagreeCount := 0
    flags := { c.flags with rate := false, disagree := false } }

/-- Stage 7 of a cell that is not VOID and not held, in the zone `z` (R108, case 3). -/
def classifyValue (z : ZoneRecord) (b : Binding) (image : ScanImage) (c : CellState) : CellState :=
  let moved := riseOrFall z (c.filtered.getD 0) c.band c.riseCount
  let rate := rateCheck z image.interval c
  let disagree := disagreeCheck z b image.readings c
  { c with
    band := capBand c.quality moved.1
    riseCount := moved.2
    rateCount := rate.1
    disagreeCount := disagree.1
    flags := { c.flags with rate := rate.2, disagree := disagree.2 } }

/-- Stage 7 on one cell: a held pass (R116), a released one from NORMAL (R117), a VOID cell (R113) or a
classification, and then the previous-valid-for-rate marker (R118). -/
def classifyCell (held released : Bool) (z : ZoneRecord) (b : Binding) (image : ScanImage)
    (c : CellState) : CellState :=
  let done :=
    if held then clearedChecks .held c
    else
      let start := if released then clearedChecks .normal c else c
      if c.quality = .void then clearedChecks .normal start
      else classifyValue z b image start
  { done with prevValid := c.quality == .good && !held }

/-! ### Records and notices of a cell (R96, R97, R98, R114, R120, R122) -/

/-- The number of a rate as a record carries it (R120). -/
def rateValue (rate : Int) : Int := max (-32767) (min 32767 rate)

/-- A record of the Map Engine about a cell: stamped with the scan of its image, and with the cell's
governing zone and quality (R95, R142). -/
def cellRecord (image : ScanImage) (i : CellIndex) (c : CellState) (kind : RecordKind) (value : Option Int)
    (bands : Option (Band × Band)) : RecordBody where
  kind := kind
  timeTag := image.timeTag
  scanNumber := image.number
  subject := .cell i
  station := none
  value := value
  bandBefore := bands.map Prod.fst
  bandAfter := bands.map Prod.snd
  zone := some c.zone
  quality := some c.quality

/-- The source record of a bound cell (R96): `old` before the computation, `new` after stage 7. -/
def sourceRecord (image : ScanImage) (i : CellIndex) (bound : Bool) (old new : CellState) : List RecordBody :=
  if bound && old.scanNumber != 0 then
    if old.quality = .good && new.quality != .good then [cellRecord image i new .sourceLost new.resolved none]
    else if old.quality != .good && new.quality = .good then [cellRecord image i new .sourceBack new.resolved none]
    else []
  else []

/-- The band before stage 7 as R114 judges it: NORMAL for a cell of a released pass (R117). -/
def bandBefore (released : Bool) (old : CellState) : Band := if released then .normal else old.band

/-- The band record (R114): a change among NORMAL, WATCH, ALARM and LIMIT. -/
def bandRecord (image : ScanImage) (i : CellIndex) (released : Bool) (old new : CellState) : List RecordBody :=
  let b := bandBefore released old
  if b = .held || new.band = .held || b = new.band then []
  else
    [cellRecord image i new (if bandRank b < bandRank new.band then .bandRise else .bandFall) new.filtered
      (some (b, new.band))]

/-- The rate record (R119, R120, R113): the RATE flag set or cleared at a computation of a pass not held. -/
def rateRecord (image : ScanImage) (i : CellIndex) (held released : Bool) (old new : CellState) :
    List RecordBody :=
  let before := old.flags.rate && !released
  let value := match new.filtered, new.prevFiltered with
    | some f, some p => some (rateValue (rateOf image.interval f p))
    | _, _ => none
  if held || before = new.flags.rate then []
  else [cellRecord image i new (if new.flags.rate then .rateOn else .rateOff) value none]

/-- The disagreement record (R121, R122, R113). -/
def disagreeRecord (image : ScanImage) (i : CellIndex) (held released : Bool) (b : Binding)
    (old new : CellState) : List RecordBody :=
  let before := old.flags.disagree && !released
  let value := match new.quality, usableReading image.readings b.primary,
      usableReading image.readings b.secondary with
    | .void, _, _ => none
    | _, some x, some y => some ((x.1 - y.1).natAbs : Int)
    | _, _, _ => none
  if held || before = new.flags.disagree then []
  else [cellRecord image i new (if new.flags.disagree then .disagreeOn else .disagreeOff) value none]

/-- The records of a cell in the order of R95; none when its log enable is no (R98). -/
def cellRecords (image : ScanImage) (i : CellIndex) (held released : Bool) (b : Binding)
    (old new : CellState) : List RecordBody :=
  if b.logEnable then
    sourceRecord image i b.primary.isSome old new ++ bandRecord image i released old new
      ++ rateRecord image i held released old new ++ disagreeRecord image i held released b old new
  else []

/-- The notice that goes with a record of a cell, if its kind has one (R97, R114, R119, R121). -/
def noticeOfRecord (i : CellIndex) (r : RecordBody) : List Notice :=
  match r.kind, r.bandAfter with
  | .bandRise, some .alarm => [⟨.alarmEntered, some i.val⟩]
  | .bandRise, some .limit => [⟨.limitEntered, some i.val⟩]
  | .rateOn, _ => [⟨.rateHigh, some i.val⟩]
  | .disagreeOn, _ => [⟨.disagree, some i.val⟩]
  | _, _ => []

/-- The notices of a cell in the order of R97. -/
def cellNotices (i : CellIndex) (records : List RecordBody) : List Notice :=
  records.flatMap (noticeOfRecord i)

end Sys2Proof.Machine
end

