-- ==== Sys2Proof/Machine/TrendStore.lean ====
section
/-! DEFINITION. The Trend Store's operations: allocations, the taking of frames, the reading of stored frames (chapter 7). -/

namespace Sys2Proof.Machine

/-- The number of slots of a ring size (R125). -/
def ringSlots : RingSize → Nat
  | .r8 => 8 | .r16 => 16 | .r32 => 32 | .r64 => 64 | .r128 => 128

/-- The ring size of a field of TREND_SET: the size itself (section 11.5). -/
def ringSizeOf : Nat → Option RingSize
  | 8 => some .r8 | 16 => some .r16 | 32 => some .r32 | 64 => some .r64 | 128 => some .r128 | _ => none

/-- The allocation of a configuration: its base slot and its number of slots (R126). -/
def allocation : TrendConfig → Option (Nat × Nat)
  | .off => none
  | .snapshot base => some (base.val, 1)
  | .paired base => some (base.val, 2)
  | .ring base size _ => some (base.val, ringSlots size)

/-- The allocation's last slot is 255 or below (R126, R127). -/
def fitsPool (c : TrendConfig) : Bool :=
  match allocation c with
  | none => true
  | some (base, n) => base + n ≤ 256

/-- Two allocations share a slot (R126, R127). -/
def overlaps (a b : TrendConfig) : Bool :=
  match allocation a, allocation b with
  | some (x, m), some (y, n) => x < y + n && y < x + m
  | _, _ => false

/-- The slot is in the allocation. -/
def inAllocation (c : TrendConfig) (slot : Nat) : Bool :=
  match allocation c with
  | none => false
  | some (base, n) => base ≤ slot && slot < base + n

/-- The pool with every slot of an allocation emptied (R136). -/
def emptySlots (c : TrendConfig) (pool : Vector (Option Frame) 256) : Vector (Option Frame) 256 :=
  tab fun i => if inAllocation c i.val then none else pool[i]

/-- The pool with a frame written into a slot. -/
def writeSlot (pool : Vector (Option Frame) 256) (slot : Nat) (f : Frame) : Vector (Option Frame) 256 :=
  pool.setIfInBounds slot (some f)

/-- The pool's slot, if it is one and holds a frame. -/
def readSlot (pool : Vector (Option Frame) 256) (slot : Nat) : Option Frame := (pool[slot]?).getD none

/-- The offset of a PAIRED slot from the base slot (R125). -/
def pairOffset : PairSlot → Nat
  | .first => 0
  | .second => 1

/-- The other slot of a PAIRED allocation. -/
def otherSlot : PairSlot → PairSlot
  | .first => .second
  | .second => .first

/-- A frame is valid: none of its station entries is VOID (R130). -/
def frameValid (f : Frame) : Bool := f.entries.all fun e => e.quality != .void

/-- A taken frame: the pool and pass record after it, and the notice it emits. -/
structure FrameTaken where
  pool : Vector (Option Frame) 256
  record : PassTrend
  notices : List Notice

/-- The notices of an advance from write position `w` in a ring of `n` slots (R135). -/
def advanceNotices (p : PassNo) (w n : Nat) : List Notice :=
  if w = n / 2 - 1 then [⟨.trendHalf, some p.val⟩]
  else if w = n - 1 then [⟨.trendWrap, some p.val⟩]
  else []

/-- A pass's record takes a frame, by its mode (R130 to R135). -/
def takeFrame (pool : Vector (Option Frame) 256) (r : PassTrend) (f : Frame) : FrameTaken :=
  match r.config with
  | .off => ⟨pool, r, []⟩
  | .snapshot base => ⟨writeSlot pool base.val f, { r with storedCount := 1 }, []⟩
  | .paired base =>
    ⟨writeSlot pool (base.val + pairOffset r.active) f,
      if frameValid f then { r with active := otherSlot r.active, storedCount := 1 } else r, []⟩
  | .ring base size validOnly =>
    let n := ringSlots size
    let w := r.writePosition
    if !validOnly || frameValid f then
      ⟨writeSlot pool (base.val + w) f,
        { r with writePosition := (w + 1) % n, fillCount := if r.fillCount < n then r.fillCount + 1 else n },
        advanceNotices f.pass w n⟩
    else
      ⟨writeSlot pool (base.val + w) f,
        { r with fillCount := if r.fillCount < n then r.fillCount else n - 1 }, []⟩

/-- The Trend Store takes one frame (R131 to R135). -/
def Trend.take (t : Trend) (f : Frame) : Trend × List Notice :=
  let x := takeFrame t.pool t.passes[f.pass] f
  (⟨x.pool, upd t.passes f.pass fun _ => x.record⟩, x.notices)

/-- The Trend Store takes the frames of a publication in their order, with the notices it emits (R94). -/
def Trend.takeAll : Trend → List Frame → Trend × List Notice
  | t, [] => (t, [])
  | t, f :: fs =>
    let one := t.take f
    let rest := one.1.takeAll fs
    (rest.1, one.2 ++ rest.2)

/-- The number of stored frames of a pass (R137). -/
def storedFrames (r : PassTrend) : Nat :=
  match r.config with
  | .off => 0
  | .snapshot _ => r.storedCount
  | .paired _ => r.storedCount
  | .ring _ _ _ => r.fillCount

/-- The slot of age `k` (R137). -/
def slotOfAge (r : PassTrend) (k : Nat) : Option Nat :=
  match r.config with
  | .off => none
  | .snapshot base => some base.val
  | .paired base => some (base.val + pairOffset (otherSlot r.active))
  | .ring base size _ =>
    some (base.val + (r.writePosition + 2 * ringSlots size - 1 - k) % ringSlots size)

/-- The frame of age `k` of a pass, if one is stored (R137). -/
def Trend.frameOfAge (t : Trend) (p : PassNo) (k : Nat) : Option Frame :=
  if k < storedFrames t.passes[p] then
    (slotOfAge t.passes[p] k).bind (readSlot t.pool)
  else none

/-- The contents of one pass emptied (R136). -/
def Trend.emptyPass (t : Trend) (p : PassNo) : Trend where
  pool := emptySlots t.passes[p].config t.pool
  passes := upd t.passes p fun r => PassTrend.emptied r.config

/-- The contents of all four passes emptied, as START and RESTART do (R136). -/
def Trend.emptyAll (t : Trend) : Trend := (((t.emptyPass 0).emptyPass 1).emptyPass 2).emptyPass 3

end Sys2Proof.Machine
end

