-- ==== Sys2Proof/Machine/Publication.lean ====
section
/-! DEFINITION. Stages 8 and 9: the cells of a computation, pass summaries, the spread check, publication and its emissions. -/

namespace Sys2Proof.Machine

/-! ### The working cells after stages 2 to 7 (R77) -/

/-- One stage: it works on every present cell, and leaves absent positions alone (R77). -/
def onPresent (passes : Vector PassEntry 4) (f : CellIndex → CellState → CellState)
    (cells : Vector CellState 128) : Vector CellState 128 :=
  tab fun i => if isPresent passes i then f i cells[i] else cells[i]

/-- Stage 2 (R106, R107). -/
def stage2 (m : MapEngine) (c : Computation) : Vector CellState 128 :=
  onPresent m.passes (applyZone m.zones c.limitsChanged) m.cells

/-- Stage 3 (R83 to R85). -/
def stage3 (m : MapEngine) (c : Computation) : Vector CellState 128 :=
  onPresent m.passes (fun i x =>
    resolveCell m.zones[x.zone].holdAllowance m.bindings[i] c.source.image.readings x) (stage2 m c)

/-- Stage 4 (R86, R87). -/
def stage4 (m : MapEngine) (c : Computation) : Vector CellState 128 :=
  onPresent m.passes (estimateCell m.passes (stage3 m c)) (stage3 m c)

/-- Stages 5 to 7 on one cell, with the scan number of the computation (R77, R88, R90, R91, R108). -/
def finishCell (m : MapEngine) (c : Computation) (i : CellIndex) (x : CellState) : CellState :=
  let p := passOf i
  let z := m.zones[x.zone]
  let filtered := filterCell c.released[p] z.weight x
  let peaked := peakCell c.clearPeaks[p] c.source.image.timeTag filtered
  let classified := classifyCell m.passes[p].held c.released[p] z m.bindings[i] c.source.image peaked
  { classified with scanNumber := c.source.image.number }

/-- The working cells after stage 7. -/
def computedCells (m : MapEngine) (c : Computation) : Vector CellState 128 :=
  onPresent m.passes (finishCell m c) (stage4 m c)

/-! ### Stage 8: pass summaries and the spread check -/

/-- The counted cells of a pass, station and filtered value, in ascending station order (R12). -/
def countedCells (passes : Vector PassEntry 4) (cells : Vector CellState 128) (p : PassNo) :
    List (Station × Int) :=
  (List.finRange 32).filterMap fun t =>
    let i := cellAt p t
    if isPresent passes i && cells[i].counted then cells[i].filtered.map fun f => (t, f) else none

/-- The first of the largest (R12: the lowest-numbered station wins a tie). -/
def hottest : List (Station × Int) → Option (Station × Int)
  | [] => none
  | x :: xs => some (xs.foldl (fun best y => if best.2 < y.2 then y else best) x)

/-- The first of the smallest (R12). -/
def coolest : List (Station × Int) → Option (Station × Int)
  | [] => none
  | x :: xs => some (xs.foldl (fun best y => if y.2 < best.2 then y else best) x)

/-- The rounded mean of the counted values (R12). -/
def meanValue (xs : List (Station × Int)) : Option Int :=
  if xs.isEmpty then none else some (roundDiv (xs.map Prod.snd).sum xs.length)

/-- The number of present cells of a quality (R12). -/
def qualityCount (passes : Vector PassEntry 4) (cells : Vector CellState 128) (p : PassNo) (q : Quality) :
    Nat :=
  (List.finRange 32).countP fun t => isPresent passes (cellAt p t) && cells[cellAt p t].quality == q

/-- The summary of a pass, its SPREAD flag as given (R12, R92). -/
def summaryOf (passes : Vector PassEntry 4) (cells : Vector CellState 128) (image : ScanImage)
    (spreadFlag : Bool) (p : PassNo) : Summary :=
  let xs := countedCells passes cells p
  let mean := meanValue xs
  { scanNumber := image.number
    timeTag := image.timeTag
    stations := passes[p].stations
    hottestStation := (hottest xs).map Prod.fst
    hottestValue := (hottest xs).map Prod.snd
    coolestStation := (coolest xs).map Prod.fst
    coolestValue := (coolest xs).map Prod.snd
    mean := mean
    spread := (hottest xs).bind fun h => mean.map fun m => h.2 - m
    goodCount := qualityCount passes cells p .good
    heldCount := qualityCount passes cells p .held
    estimatedCount := qualityCount passes cells p .estimated
    voidCount := qualityCount passes cells p .void
    held := passes[p].held
    spreadFlag := spreadFlag }

/-- The spread check of a pass, with the persistence of zone 0 (R123). -/
def spreadCheck (persistence : Nat) (spread : Option Int) (e : PassEntry) : PassEntry :=
  if e.held then { e with spreadCount := 0, spreadFlag := false }
  else
    match e.spreadLimit, spread with
    | none, _ => { e with spreadFlag := false }
    | some _, none => { e with spreadCount := 0 }
    | some limit, some x =>
      let r := stepCheck persistence (limit < x) e.spreadCount e.spreadFlag
      { e with spreadCount := r.1, spreadFlag := r.2 }

/-- The spread of a pass's counted cells (R12). -/
def spreadOf (m : MapEngine) (c : Computation) (p : PassNo) : Option Int :=
  (summaryOf m.passes (computedCells m c) c.source.image false p).spread

/-- The pass table after the spread checks of stage 8. -/
def checkedPasses (m : MapEngine) (c : Computation) : Vector PassEntry 4 :=
  tab fun p => spreadCheck m.zones[(0 : ZoneNo)].persistence (spreadOf m c p) m.passes[p]

/-- The pass summaries the computation publishes (R12, R92). -/
def publishedSummaries (m : MapEngine) (c : Computation) : Vector Summary 4 :=
  tab fun p => summaryOf m.passes (computedCells m c) c.source.image (checkedPasses m c)[p].spreadFlag p

/-! ### Stage 9: what a publication sends -/

/-- A record of the Map Engine about a pass (R95, R124, R142). -/
def passRecord (image : ScanImage) (p : PassNo) (kind : RecordKind) (station : Option Station)
    (value : Option Int) : RecordBody where
  kind := kind
  timeTag := image.timeTag
  scanNumber := image.number
  subject := .pass p
  station := station
  value := value
  bandBefore := none
  bandAfter := none
  zone := none
  quality := none

/-- The hold record of a pass, if the latch formed one (R81, R95). -/
def holdRecord (c : Computation) (p : PassNo) : List RecordBody :=
  match c.holdRecords[p] with
  | some true => [passRecord c.source.image p .holdOn none none]
  | some false => [passRecord c.source.image p .holdOff none none]
  | none => []

/-- The spread record of a pass, if the spread check formed one (R123, R124). -/
def spreadRecord (m : MapEngine) (c : Computation) (p : PassNo) : List RecordBody :=
  let before := m.passes[p]
  let after := (checkedPasses m c)[p].spreadFlag
  let summary := (publishedSummaries m c)[p]
  if before.held || before.spreadLimit.isNone || before.spreadFlag = after then []
  else
    [passRecord c.source.image p (if after then .spreadOn else .spreadOff) summary.hottestStation summary.spread]

/-- The records of one cell at this publication; `c.savedCells` holds its previous state. -/
def recordsOfCell (m : MapEngine) (c : Computation) (i : CellIndex) : List RecordBody :=
  if isPresent m.passes i then
    cellRecords c.source.image i m.passes[passOf i].held c.released[passOf i] m.bindings[i]
      c.savedCells[i] (computedCells m c)[i]
  else []

/-- The cells of a pass in ascending station order. -/
def cellsOfPass (p : PassNo) : List CellIndex := (List.finRange 32).map (cellAt p)

/-- The records of a publication, pass by pass, in the order of R95. -/
def publicationRecords (m : MapEngine) (c : Computation) : List RecordBody :=
  (List.finRange 4).flatMap fun p =>
    holdRecord c p ++ (cellsOfPass p).flatMap (recordsOfCell m c) ++ spreadRecord m c p

/-- The SPREAD_HIGH notice that goes with a SPREAD_ON record (R123, R124). -/
def spreadNotice (p : PassNo) (records : List RecordBody) : List Notice :=
  records.flatMap fun r => if r.kind = .spreadOn then [⟨.spreadHigh, some p.val⟩] else []

/-- The notices of a publication, pass by pass, in the order of R97. -/
def publicationNotices (m : MapEngine) (c : Computation) : List Notice :=
  (List.finRange 4).flatMap fun p =>
    (cellsOfPass p).flatMap (fun i => cellNotices i (recordsOfCell m c i))
      ++ spreadNotice p (spreadRecord m c p) ++ [⟨.passClosed, some p.val⟩]

/-- The station entry of a cell in a trend frame (R129). -/
def stationEntry (c : CellState) : StationEntry := ⟨c.filtered, c.quality, c.band, c.flags⟩

/-- The trend frame of a pass (R94, R129). -/
def frameOf (m : MapEngine) (c : Computation) (p : PassNo) : Frame where
  pass := p
  summary := (publishedSummaries m c)[p]
  entries := ((cellsOfPass p).filter (isPresent m.passes)).map fun i => stationEntry (computedCells m c)[i]

/-- The four frames of a publication, in ascending pass order (R94). -/
def publicationFrames (m : MapEngine) (c : Computation) : List Frame := (List.finRange 4).map (frameOf m c)

/-- The Map Engine after its publication and before the intake step (R14, R81, R93): the published map
replaced whole, the computation's changes kept, the taken entries of the latch removed. -/
def MapEngine.completed (m : MapEngine) (c : Computation) : MapEngine :=
  { m with
    passes := checkedPasses m c
    cells := computedCells m c
    latch := m.latch.dropTaken
    computing := none
    published := { summaries := publishedSummaries m c
                   cells := tab fun i =>
                     if isPresent m.passes i then (computedCells m c)[i] else CellState.reset } }

/-- A computation completes (R93): the map is published, the frames, records and notices are sent, and
the waiting image, if there is one, starts the next computation (R75). The Trend Store takes the frames in
this event (R137); the records and notices are on their way, each stream in its order (R95, R97, R135),
and arrive within this event, at later readings or in idle moments (log entry 6). Without a computation in
flight nothing happens. -/
def State.publish (s : State) : State :=
  match s.map.computing with
  | none => s
  | some c =>
    let frames := s.trend.takeAll (publicationFrames s.map c)
    State.send
      { s with map := (s.map.completed c).takeWaiting, trend := frames.1 }
      ((publicationRecords s.map c).map .record
        ++ (publicationNotices s.map c ++ frames.2).map .notice)

end Sys2Proof.Machine
end

