-- ==== Sys2Proof/Machine/MapRequests.lean ====
section
/-! DEFINITION. The requests of the Map Engine, and PUBLICATION (chapters 1, 5 and 6). -/

namespace Sys2Proof.Machine

/-- A cell index that names a position present under the pass table (R2). -/
def presentCell (passes : Vector PassEntry 4) (x : Nat) : Option CellIndex :=
  (below 128 x).filter (isPresent passes)

/-! ### PASS_SET and CELL_BIND -/

/-- The pass table entry, bindings and cells after a taken PASS_SET of `n` stations (R4, R5): the
positions from the lower of the two counts on stand at the defaults. -/
def MapEngine.setPass (m : MapEngine) (p : PassNo) (n : Nat) (spreadLimit : Option Int) : MapEngine :=
  let kept (i : CellIndex) : Bool := passOf i != p || (stationOf i).val < min m.passes[p].stations n
  { m with
    passes := upd m.passes p fun e => { e with stations := n, spreadLimit := spreadLimit }
    bindings := tab fun i => if kept i then m.bindings[i] else Binding.default
    cells := tab fun i => if kept i then m.cells[i] else CellState.reset }

/-- PASS_SET's owner (R4). -/
def servePassSet (pl : List Byte) (s : State) : Answer × State :=
  if s.op.state ≠ .stopped then answer .state s
  else
    match below 4 (u8 pl 0) with
    | none => answer .range s
    | some p =>
      if !within 1 (u8 pl 1) 32 then answer .range s
      else if !(opt16 pl 2).all (fun x => within 1 x 5000) then answer .range s
      else answer .done { s with map := s.map.setPass p (u8 pl 1) (opt16 pl 2) }

/-- The binding of a CELL_BIND's payload, if its fields pass the checks of R7 after the cell index. -/
def payloadBinding (pl : List Byte) : Option Binding :=
  match optChannel pl 1, optChannel pl 2, combineOf (u8 pl 3), yesNo (u8 pl 4) with
  | some primary, some secondary, some combine, some logEnable =>
    if secondary.isSome && (primary.isNone || secondary == primary) then none
    else some ⟨primary, secondary, combine, logEnable⟩
  | _, _, _, _ => none

/-- CELL_BIND's owner (R7). -/
def serveCellBind (pl : List Byte) (s : State) : Answer × State :=
  if s.op.state ≠ .stopped then answer .state s
  else
    match presentCell s.map.passes (u8 pl 0), payloadBinding pl with
    | some i, some b =>
      answer .done { s with map := { s.map with bindings := upd s.map.bindings i fun _ => b } }
    | _, _ => answer .range s

/-! ### Reading cells (R16 to R18) -/

/-- The cell index and binding of CELL_GET's reply, 5 bytes (R18). -/
def bindingBytes (i : CellIndex) (b : Binding) : List Byte :=
  [put8 i.val, putOpt8 (b.primary.map Fin.val), putOpt8 (b.secondary.map Fin.val), combineByte b.combine,
   putBool b.logEnable]

/-- The state part of CELL_GET's reply: the published state, or for a position that was absent in the
published map the reset values with the published scan number (R18). -/
def PublishedMap.cellState (m : PublishedMap) (i : CellIndex) : CellState :=
  if m.isPresent i then m.cells[i]
  else { CellState.reset with scanNumber := m.summaries[passOf i].scanNumber }

/-- CELL_GET's owner (R18). -/
def serveCellGet (pl : List Byte) (s : State) : Answer × State :=
  match presentCell s.map.passes (u8 pl 0) with
  | none => answer .range s
  | some i =>
    let c := s.map.published.cellState i
    doneWith (bindingBytes i s.map.bindings[i] ++ cellStateBytes (cellFlagsByte c.flags) c) s

/-- The cells of a MAP_READ of `n` records from a station of a pass (R16). -/
def PublishedMap.run (m : PublishedMap) (p : PassNo) (first n : Nat) : List (Nat × CellState) :=
  ((List.finRange 32).filter fun t => first ≤ t.val && t.val < first + n).map fun t =>
    (t.val, m.cells[cellAt p t])

/-- The number of records of a MAP_READ: the count clamped to 12 and to the stations left (R16). -/
def PublishedMap.runLength (m : PublishedMap) (p : PassNo) (first count : Nat) : Nat :=
  min (min count 12) (m.summaries[p].stations - first)

/-- MAP_READ's owner (R16). -/
def serveMapRead (pl : List Byte) (s : State) : Answer × State :=
  match below 4 (u8 pl 0) with
  | none => answer .range s
  | some p =>
    let m := s.map.published
    let first := u8 pl 1
    if m.summaries[p].stations ≤ first then answer .range s
    else
      let n := m.runLength p first (u8 pl 2)
      doneWith (put32 m.summaries[p].scanNumber ++ [put8 p.val, put8 first, put8 n]
        ++ (m.run p first n).flatMap fun x => cellRecordBytes x.1 (cellFlagsByte x.2.flags) x.2) s

/-- The passes of a pass selection: one of 0 to 3, or all four for 4 (R2). -/
def selectedPasses (x : Nat) : Option (List PassNo) :=
  if x = 4 then some (List.finRange 4) else (below 4 x).map fun p => [p]

/-- PASS_SUMMARY's owner (R17). -/
def servePassSummary (pl : List Byte) (s : State) : Answer × State :=
  match selectedPasses (u8 pl 0) with
  | none => answer .range s
  | some ps => doneWith (ps.flatMap fun p => summaryBytes p s.map.published.summaries[p]) s

/-! ### Controls written pending (R79, R80, R104, R115) -/

/-- The control latch replaced. -/
def State.setLatch (s : State) (l : ControlLatch) : State := { s with map := { s.map with latch := l } }

/-- The present edges do not decrease from the first to the second (R104). -/
def edgesOrdered (a b : Option Int) : Bool :=
  match a, b with
  | some x, some y => x ≤ y
  | _, _ => true

/-- An optional field is absent or within its range (R104). -/
def optWithin (lo : Int) (x : Option Int) (hi : Int) : Bool := x.all fun v => within lo v hi

/-- The fields of a zone definition that zone 0 keeps fixed: enabled, pass set, first and last station. -/
def payloadExtent (z : ZoneNo) (pl : List Byte) : Option (Bool × BitVec 4 × Station × Station) :=
  if z = 0 then some (true, 15, 0, 31)
  else
    match yesNo (u8 pl 1), below 16 (u8 pl 2), below 32 (u8 pl 3), below 32 (u8 pl 4) with
    | some enabled, some passes, some first, some last =>
      if first ≤ last then some (enabled, BitVec.ofFin passes, first, last) else none
    | _, _, _, _ => none

/-- The settings of a zone definition pass the checks of R104 from the edges on. -/
def zoneSettingsOk (r : ZoneRecord) : Bool :=
  optWithin (-500) r.watch 12000 && optWithin (-500) r.alarm 12000 && optWithin (-500) r.limit 12000
    && edgesOrdered r.watch r.alarm && edgesOrdered r.alarm r.limit && edgesOrdered r.watch r.limit
    && within 0 r.hysteresis 500 && within 1 r.persistence 15 && within 0 r.holdAllowance 15
    && within 1 r.weight 16 && optWithin 1 r.rateLimit 5000 && optWithin 1 r.discrepancy 2000

/-- The zone definition of a ZONE_SET's payload, if it passes the checks of R104. -/
def payloadZone (z : ZoneNo) (pl : List Byte) : Option ZoneRecord :=
  match payloadExtent z pl with
  | none => none
  | some (enabled, passes, first, last) =>
    let r : ZoneRecord := {
      enabled := enabled, passes := passes, first := first, last := last
      watch := opt16 pl 5, alarm := opt16 pl 7, limit := opt16 pl 9
      hysteresis := u16 pl 11
      persistence := u8 pl 13, holdAllowance := u8 pl 14, weight := u8 pl 15
      rateLimit := opt16 pl 16, discrepancy := opt16 pl 18 }
    if zoneSettingsOk r then some r else none

/-- ZONE_SET's owner (R104). -/
def serveZoneSet (pl : List Byte) (s : State) : Answer × State :=
  match below 8 (u8 pl 0) with
  | none => answer .range s
  | some z =>
    match payloadZone z pl with
    | none => answer .range s
    | some r =>
      let l := s.map.latch
      answer .done (s.setLatch { l with zoneEdits := upd l.zoneEdits z fun _ => written r })

/-- The definition ZONE_GET returns: the pending edit, or the record of the zone table (R105). -/
def MapEngine.zoneShown (m : MapEngine) (z : ZoneNo) : ZoneRecord :=
  (m.latch.zoneEdits[z].map Entry.value).getD m.zones[z]

/-- ZONE_GET's owner (R105). -/
def serveZoneGet (pl : List Byte) (s : State) : Answer × State :=
  match below 8 (u8 pl 0) with
  | none => answer .range s
  | some z =>
    doneWith ([put8 z.val, putBool s.map.latch.zoneEdits[z].isSome] ++ zoneBytes (s.map.zoneShown z)) s

/-- The hold entry written with a desired value (R79, R115). -/
def writeHold (desired : Bool) (pl : List Byte) (s : State) : Answer × State :=
  match below 4 (u8 pl 0) with
  | none => answer .range s
  | some p =>
    let l := s.map.latch
    answer .done (s.setLatch { l with holds := upd l.holds p fun _ => written desired })

/-- HOLD_PASS's owner (R115). -/
def serveHoldPass (pl : List Byte) (s : State) : Answer × State := writeHold true pl s

/-- RELEASE_PASS's owner (R115). -/
def serveReleasePass (pl : List Byte) (s : State) : Answer × State := writeHold false pl s

/-- CLEAR_PEAKS's owner (R80). -/
def serveClearPeaks (pl : List Byte) (s : State) : Answer × State :=
  match selectedPasses (u8 pl 0) with
  | none => answer .range s
  | some ps =>
    let l := s.map.latch
    answer .done (s.setLatch { l with
      peakClears := tab fun p => if ps.contains p then written () else l.peakClears[p] })

/-! ### The commands -/

/-- PASS_SET (R4). -/
def execPassSet (p : Port) (pl : List Byte) (s : State) : Host.Outcome State Fault Refusal :=
  .next (s.takeRequest p .passSet pl (servePassSet pl))

/-- CELL_BIND (R7). -/
def execCellBind (p : Port) (pl : List Byte) (s : State) : Host.Outcome State Fault Refusal :=
  .next (s.takeRequest p .cellBind pl (serveCellBind pl))

/-- CELL_GET (R18). -/
def execCellGet (p : Port) (pl : List Byte) (s : State) : Host.Outcome State Fault Refusal :=
  .next (s.takeRequest p .cellGet pl (serveCellGet pl))

/-- ZONE_SET (R104). -/
def execZoneSet (p : Port) (pl : List Byte) (s : State) : Host.Outcome State Fault Refusal :=
  .next (s.takeRequest p .zoneSet pl (serveZoneSet pl))

/-- ZONE_GET (R105). -/
def execZoneGet (p : Port) (pl : List Byte) (s : State) : Host.Outcome State Fault Refusal :=
  .next (s.takeRequest p .zoneGet pl (serveZoneGet pl))

/-- HOLD_PASS (R115). -/
def execHoldPass (p : Port) (pl : List Byte) (s : State) : Host.Outcome State Fault Refusal :=
  .next (s.takeRequest p .holdPass pl (serveHoldPass pl))

/-- RELEASE_PASS (R115). -/
def execReleasePass (p : Port) (pl : List Byte) (s : State) : Host.Outcome State Fault Refusal :=
  .next (s.takeRequest p .releasePass pl (serveReleasePass pl))

/-- CLEAR_PEAKS (R80). -/
def execClearPeaks (p : Port) (pl : List Byte) (s : State) : Host.Outcome State Fault Refusal :=
  .next (s.takeRequest p .clearPeaks pl (serveClearPeaks pl))

/-- MAP_READ (R16). -/
def execMapRead (p : Port) (pl : List Byte) (s : State) : Host.Outcome State Fault Refusal :=
  .next (s.takeRequest p .mapRead pl (serveMapRead pl))

/-- PASS_SUMMARY (R17). -/
def execPassSummary (p : Port) (pl : List Byte) (s : State) : Host.Outcome State Fault Refusal :=
  .next (s.takeRequest p .passSummary pl (servePassSummary pl))

/-- PUBLICATION (R93). -/
def execPublication (s : State) : Host.Outcome State Fault Refusal :=
  .next (if s.operating then s.publish else s)

end Sys2Proof.Machine
end

