-- ==== Sys2Proof/Machine/OperatingRequests.lean ====
section
/-! DEFINITION. The operating states and the time tag: START, STOP, PAUSE, RESUME, RESTART, SYNC_TIME, TIME_RES_SET, TIME_TAG_PERIOD_EXPIRY (chapter 10). -/

namespace Sys2Proof.Machine

/-! ### The run state (R161, R164) -/

/-- The run state of the blocks after START, and as RESTART sets it too (R161, R164). -/
def State.resetRun (s : State) : State :=
  { s with input := s.input.resetRun, map := s.map.resetRun, trend := s.trend.emptyAll }

/-- The refusal of START's validation, if a check fails (R161, R170): CONFIG with the item. -/
def startRefusal (x : Input) : Option Answer :=
  match scanList x.channels with
  | [] => some ⟨.config, [1, 0xFF, 0xFF]⟩
  | enabled =>
    (enabled.find? fun c => x.curves[x.channels[c].curve].isEmpty).map fun c =>
      ⟨.config, [2, put8 c.val, put8 x.channels[c].curve.val]⟩

/-- The operating state replaced. -/
def State.setOpState (s : State) (x : OpState) : State := { s with op := { s.op with state := x } }

/-- START's owner (R161). -/
def serveStart (s : State) : Answer × State :=
  if s.op.state ≠ .stopped then answer .state s
  else
    match startRefusal s.input with
    | some a => (a, s)
    | none => answer .done (s.resetRun.setOpState .running).beginScan

/-! ### The LIMIT test (R162) -/

/-- Some present cell of the published map has band LIMIT. -/
def PublishedMap.hasLimit (m : PublishedMap) : Bool :=
  (List.finRange 128).any fun i => m.isPresent i && m.cells[i].band == .limit

/-- The refusal of PAUSE, STOP or RESTART, if a check fails, in the order of R162: the force marker,
the operating state (`taken`), the LIMIT test. -/
def stopRefusal (taken : Bool) (pl : List Byte) (s : State) : Option ResultCode :=
  match yesNo (u8 pl 0) with
  | none => some .range
  | some force =>
    if !taken then some .state
    else if !force && s.map.published.hasLimit then some .condition
    else none

/-- The Map Engine's work abandoned (R101). -/
def State.abandonMap (s : State) : State := { s with map := s.map.abandon }

/-- STOP's owner (R162, R163). -/
def serveStop (pl : List Byte) (s : State) : Answer × State :=
  match stopRefusal (s.op.state ≠ .stopped) pl s with
  | some code => answer code s
  | none => answer .done (s.abortScan.abandonMap.setOpState .stopped)

/-- PAUSE's owner (R162, R163): the Map Engine finishes its work (R100). -/
def servePause (pl : List Byte) (s : State) : Answer × State :=
  match stopRefusal (s.op.state = .running) pl s with
  | some code => answer code s
  | none => answer .done (s.abortScan.setOpState .paused)

/-- RESUME's owner (R163): the intake's resume marker is set (R76) and a scan opens. -/
def serveResume (s : State) : Answer × State :=
  if s.op.state ≠ .paused then answer .state s
  else
    answer .done
      (State.setOpState { s with map := { s.map with resumeMarker := true } } .running).beginScan

/-- What RESTART sets beside the run state of START (R164): hold entries, scan number, log, queue and
pending records. What is in transit stays so (log entry 6). -/
def State.restartRest (s : State) : State :=
  { s with
    map := { s.map with latch := { s.map.latch with holds := fill 4 none } }
    input := { s.input with scanNumber := 0 }
    log := Log.reset
    notices := { s.notices with
      queue := []
      kinds := tab fun k => { s.notices.kinds[k] with pending := none } } }

/-- RESTART's owner (R162, R164). -/
def serveRestart (pl : List Byte) (s : State) : Answer × State :=
  match stopRefusal true pl s with
  | some code => answer code s
  | none => answer .done (s.abortScan.abandonMap.resetRun.restartRest.setOpState .stopped)

/-! ### The time tag (R165, R166) -/

/-- The time tag replaced; the period in progress is abandoned, which the environment's next expiry
shows (log entry 7). -/
def State.setTimeTag (s : State) (t : Word32) : State := { s with op := { s.op with timeTag := t } }

/-- The count that a form and value of SYNC_TIME set, if the form is CLEAR or SET (R166). -/
def syncValue (pl : List Byte) : Option Word32 :=
  match u8 pl 0 with
  | 0 => some 0
  | 1 => some (u32 pl 1)
  | _ => none

/-- SYNC_TIME's owner (R166). -/
def serveSyncTime (pl : List Byte) (s : State) : Answer × State :=
  match syncValue pl with
  | none => answer .range s
  | some t => answer .done (s.setTimeTag t)

/-- A broadcast SYNC_TIME (R166, R169): taken with no reply, and ignored for a wrong length, for a form
that is neither CLEAR nor SET, and on the maintenance port where its kind is not permitted. -/
def State.broadcastSync (s : State) (p : Port) (pl : List Byte) : State :=
  if !s.listening p then s
  else
    match syncValue pl with
    | none => s.hunt p
    | some t =>
      if pl.length = 5 && (p = .control || s.link.permitted .syncTime) then
        ((s.setTimeTag t).noteWrite p .syncTime .done).hunt p
      else s.hunt p

/-- TIME_RES_SET's owner (R165). -/
def serveTimeResSet (pl : List Byte) (s : State) : Answer × State :=
  match resolutionOf (u8 pl 0) with
  | none => answer .range s
  | some r => answer .done { s with op := { s.op with resolution := r } }

/-- A period of the time tag's resolution ends (R165). -/
def State.timeTagPeriod (s : State) : State :=
  let next := s.setTimeTag (s.op.timeTag + 1)
  if s.op.timeTag = 4294967295 then next.emit [.notice ⟨.timeWrap, none⟩] else next

/-! ### The commands -/

/-- START (R161). -/
def execStart (p : Port) (pl : List Byte) (s : State) : Host.Outcome State Fault Refusal :=
  .next (s.takeRequest p .start pl serveStart)

/-- STOP (R163). -/
def execStop (p : Port) (pl : List Byte) (s : State) : Host.Outcome State Fault Refusal :=
  .next (s.takeRequest p .stop pl (serveStop pl))

/-- PAUSE (R163). -/
def execPause (p : Port) (pl : List Byte) (s : State) : Host.Outcome State Fault Refusal :=
  .next (s.takeRequest p .pause pl (servePause pl))

/-- RESUME (R163). -/
def execResume (p : Port) (pl : List Byte) (s : State) : Host.Outcome State Fault Refusal :=
  .next (s.takeRequest p .resume pl serveResume)

/-- RESTART (R164). -/
def execRestart (p : Port) (pl : List Byte) (s : State) : Host.Outcome State Fault Refusal :=
  .next (s.takeRequest p .restart pl (serveRestart pl))

/-- SYNC_TIME (R166), addressed to the part or as a broadcast. -/
def execSyncTime (p : Port) (broadcast : Bool) (pl : List Byte) (s : State) :
    Host.Outcome State Fault Refusal :=
  .next (if broadcast then s.broadcastSync p pl else s.takeRequest p .syncTime pl (serveSyncTime pl))

/-- TIME_RES_SET (R165). -/
def execTimeResSet (p : Port) (pl : List Byte) (s : State) : Host.Outcome State Fault Refusal :=
  .next (s.takeRequest p .timeResSet pl (serveTimeResSet pl))

/-- TIME_TAG_PERIOD_EXPIRY (R165). -/
def execTimeTagPeriodExpiry (s : State) : Host.Outcome State Fault Refusal :=
  .next (if s.operating then s.timeTagPeriod else s)

end Sys2Proof.Machine
end

