-- ==== Sys2Proof/Machine/StatusRequests.lean ====
section
/-! DEFINITION. IDENTIFY, STATUS, CONDITIONS_TAKE and PERMIT_SET. -/

namespace Sys2Proof.Machine

/-- The port byte of IDENTIFY (R173). -/
def portByte : Port → Byte
  | .control => 0
  | .maintenance => 1

/-- The kinds the permission table permits, in ascending order of their codes (R173). -/
def Link.permittedKinds (l : Link) : List RequestKind := RequestKind.all.filter fun k => l.permitted k

/-- IDENTIFY's owner (R173). -/
def serveIdentify (p : Port) (s : State) : Answer × State :=
  doneWith (put16 4230 ++ [Config.firmwareMajor, Config.firmwareMinor, s.link.stationAddress, portByte p,
      rateByte s.link.rate, put8 s.link.permittedKinds.length]
    ++ s.link.permittedKinds.map RequestKind.code) s

/-- The number of entries queued at a level (R159). -/
def queuedAt (queue : List QueueEntry) (level : Nat) : Nat := queue.countP fun e => e.level == level

/-- STATUS's owner (R159). -/
def serveStatus (s : State) : Answer × State :=
  let q := s.notices.queue
  doneWith ([opStateByte s.op.state] ++ put32 s.input.scanNumber ++ put32 s.op.timeTag
    ++ [conditionByte s.notices.flags, put8 q.length,
        put8 (queuedAt q 0), put8 (queuedAt q 1), put8 (queuedAt q 2), put8 (queuedAt q 3),
        put8 s.notices.level.val, putBool s.attentionLine]) s

/-- CONDITIONS_TAKE's owner: the flags are returned and cleared in one event (R159). -/
def serveConditionsTake (s : State) : Answer × State :=
  doneWith [conditionByte s.notices.flags]
    { s with notices := { s.notices with flags := ⟨false, false, false, false⟩ } }

/-- PERMIT_SET's owner (R172). -/
def servePermitSet (pl : List Byte) (s : State) : Answer × State :=
  match RequestKind.ofCode (pl.getD 0 0), yesNo (u8 pl 1) with
  | some k, some permission =>
    if k = .permitSet && permission then answer .range s
    else answer .done { s with link := { s.link with
      permits := upd s.link.permits (kindIndex k) fun _ => permission } }
  | _, _ => answer .range s

/-- IDENTIFY (R173). -/
def execIdentify (p : Port) (pl : List Byte) (s : State) : Host.Outcome State Fault Refusal :=
  .next (s.takeRequest p .identify pl (serveIdentify p))

/-- STATUS (R159). -/
def execStatus (p : Port) (pl : List Byte) (s : State) : Host.Outcome State Fault Refusal :=
  .next (s.takeRequest p .status pl serveStatus)

/-- CONDITIONS_TAKE (R159). -/
def execConditionsTake (p : Port) (pl : List Byte) (s : State) : Host.Outcome State Fault Refusal :=
  .next (s.takeRequest p .conditionsTake pl serveConditionsTake)

/-- PERMIT_SET (R172). Its own entry is never permitted, so the maintenance port is answered PERMIT. -/
def execPermitSet (p : Port) (pl : List Byte) (s : State) : Host.Outcome State Fault Refusal :=
  .next (s.takeRequest p .permitSet pl (servePermitSet pl))

end Sys2Proof.Machine
end

