-- ==== Sys2Proof/Machine/StoreRequests.lean ====
section
/-! DEFINITION. The requests of the Trend Store, the Excursion Log and the Notice Unit (chapters 7 to 9). -/

namespace Sys2Proof.Machine

/-! ### Trend Store -/

/-- The configuration of a TREND_SET's payload, if its mode, ring size and valid-only are in range (R127). -/
def payloadTrend (pl : List Byte) : Option TrendConfig :=
  match u8 pl 1, below 256 (u8 pl 2) with
  | 0, _ => some .off
  | 1, some base => some (.snapshot base)
  | 2, some base => some (.paired base)
  | 3, some base =>
    match ringSizeOf (u8 pl 3), yesNo (u8 pl 4) with
    | some size, some validOnly => some (.ring base size validOnly)
    | _, _ => none
  | _, _ => none

/-- The new allocation overlaps the allocation of another pass (R127). -/
def trendConflict (t : Trend) (p : PassNo) (c : TrendConfig) : Bool :=
  (List.finRange 4).any fun q => q != p && overlaps c t.passes[q].config

/-- The Trend Store after a taken TREND_SET: the pass's old slots and its contents emptied, the new
configuration written, its slots emptied (R127, R136). -/
def Trend.configure (t : Trend) (p : PassNo) (c : TrendConfig) : Trend where
  pool := emptySlots c (emptySlots t.passes[p].config t.pool)
  passes := upd t.passes p fun _ => PassTrend.emptied c

/-- TREND_SET's owner (R127). -/
def serveTrendSet (pl : List Byte) (s : State) : Answer × State :=
  if s.op.state ≠ .stopped then answer .state s
  else
    match below 4 (u8 pl 0), payloadTrend pl with
    | some p, some c =>
      if !fitsPool c || trendConflict s.trend p c then answer .conflict s
      else answer .done { s with trend := s.trend.configure p c }
    | _, _ => answer .range s

/-- A station entry of TREND_READ's reply, 5 bytes (section 11.6). -/
def stationEntryBytes (e : StationEntry) : List Byte :=
  putOpt16 e.filtered ++ [put8 (qualityCode e.quality), put8 (bandCode e.band), cellFlagsByte e.flags]

/-- The reply data of TREND_READ: header and station entries (R138, section 11.6). -/
def trendReadBytes (r : PassTrend) (f : Frame) (p : PassNo) (age first n : Nat) : List Byte :=
  [put8 p.val, trendModeByte r.config, put8 age, put8 (storedFrames r)]
    ++ put32 f.summary.scanNumber ++ put32 f.summary.timeTag
    ++ [putBool f.summary.held, put8 f.summary.stations] ++ statisticsBytes f.summary
    ++ [putBool f.summary.spreadFlag, put8 first, put8 n]
    ++ ((f.entries.drop first).take n).flatMap stationEntryBytes

/-- TREND_READ's owner (R137, R138). -/
def serveTrendRead (pl : List Byte) (s : State) : Answer × State :=
  match below 4 (u8 pl 0) with
  | none => answer .range s
  | some p =>
    match s.trend.frameOfAge p (u8 pl 1) with
    | none => answer .range s
    | some f =>
      let first := u8 pl 2
      if f.summary.stations ≤ first then answer .range s
      else
        doneWith (trendReadBytes s.trend.passes[p] f p (u8 pl 1) first
          (min (u8 pl 3) (f.summary.stations - first))) s

/-! ### Excursion Log -/

/-- The distance of a sequence from the oldest, modulo 65536 (R146). -/
def Log.distance (l : Log) (sequence : Nat) : Nat := (BitVec.ofNat 16 sequence - l.oldest).toNat

/-- The held record `d` places after the oldest (R139). -/
def Log.recordAt (l : Log) (d : Nat) : Option Record :=
  l.slots[(⟨(l.writePosition.val + 256 - min l.count 256 + d) % 256, by omega⟩ : Fin 256)]

/-- The records of a LOG_READ: `n` from the one `d` places after the oldest (R146). -/
def Log.run (l : Log) (d n : Nat) : List Record := (List.range n).filterMap fun j => l.recordAt (d + j)

/-- What every reply to LOG_READ carries after the code: the oldest sequence and the record count (R147). -/
def Log.positionBytes (l : Log) : List Byte := put16 l.oldest.toNat ++ put16 l.count

/-- LOG_READ's owner (R146, R147). -/
def serveLogRead (pl : List Byte) (s : State) : Answer × State :=
  let l := s.log
  let d := l.distance (u16 pl 0)
  if d < l.count then
    let n := min (min (u8 pl 2) 8) (l.count - d)
    doneWith (l.positionBytes ++ [put8 n] ++ (l.run d n).flatMap recordBytes) s
  else if d = l.count then doneWith (l.positionBytes ++ [0]) s
  else if 32768 ≤ d then (⟨.gone, l.positionBytes⟩, s)
  else (⟨.range, l.positionBytes⟩, s)

/-- The log emptied by LOG_CLEAR: the numbering and the write position go on (R149). -/
def Log.clear (l : Log) : Log := ⟨fill 256 none, l.writePosition, l.nextSequence, 0⟩

/-- LOG_CLEAR's owner (R149). -/
def serveLogClear (s : State) : Answer × State := answer .done { s with log := s.log.clear }

/-! ### Notice Unit -/

/-- The highest level present in the queue. -/
def highestLevel (queue : List QueueEntry) : Nat := (queue.map QueueEntry.level).foldl max 0

/-- The oldest entry of the highest level present (R156). -/
def nextTaken (queue : List QueueEntry) : Option QueueEntry :=
  queue.find? fun e => e.level == highestLevel queue

/-- Up to `n` entries removed, in the order they are returned, and the queue that is left (R156). -/
def takeEntries : Nat → List QueueEntry → List QueueEntry × List QueueEntry
  | 0, queue => ([], queue)
  | n + 1, queue =>
    match nextTaken queue with
    | none => ([], queue)
    | some e =>
      let rest := takeEntries n (queue.erase e)
      (e :: rest.1, rest.2)

/-- The state with the notice queue replaced. -/
def State.setQueue (s : State) (queue : List QueueEntry) : State :=
  { s with notices := { s.notices with queue := queue } }

/-- NOTICE_TAKE's owner (R156). -/
def serveNoticeTake (pl : List Byte) (s : State) : Answer × State :=
  let taken := takeEntries (min (u8 pl 0) 4) s.notices.queue
  doneWith ([put8 taken.1.length, put8 taken.2.length] ++ taken.1.flatMap noticeBytes) (s.setQueue taken.2)

/-- The entry that a released pending record offers (R155). -/
def releasedEntry (k : NoticeKind) (r : PendingRecord) : QueueEntry :=
  ⟨⟨k, r.parameter⟩, r.count, true, r.timeTag⟩

/-- A kind unmasked: its pending record, if set, is offered through the arrival rule and emptied (R155). -/
def NoticeUnit.unmask (u : NoticeUnit) (k : NoticeKind) : NoticeUnit :=
  let entry := u.kinds[noticeIndex k]
  let unmasked := { u with kinds := upd u.kinds (noticeIndex k) fun _ => ⟨false, none⟩ }
  match entry.masked, entry.pending with
  | true, some r => unmasked.offer (releasedEntry k r)
  | true, none => unmasked
  | false, _ => u

/-- A kind masked (R155): its pending record and its queued entries are left in place (R154). -/
def NoticeUnit.mask (u : NoticeUnit) (k : NoticeKind) : NoticeUnit :=
  { u with kinds := upd u.kinds (noticeIndex k) fun e => { e with masked := true } }

/-- NOTICE_MASK_SET's owner (R155). -/
def serveNoticeMaskSet (pl : List Byte) (s : State) : Answer × State :=
  match noticeKinds[u8 pl 0]?, yesNo (u8 pl 1) with
  | some k, some masked =>
    answer .done { s with notices := if masked then s.notices.mask k else s.notices.unmask k }
  | _, _ => answer .range s

/-- ATTENTION_SET's owner (R157). -/
def serveAttentionSet (pl : List Byte) (s : State) : Answer × State :=
  match below 4 (u8 pl 0) with
  | some level => answer .done { s with notices := { s.notices with level := level } }
  | none => answer .range s

/-! ### The commands -/

/-- TREND_SET (R127). -/
def execTrendSet (p : Port) (pl : List Byte) (s : State) : Host.Outcome State Fault Refusal :=
  .next (s.takeRequest p .trendSet pl (serveTrendSet pl))

/-- TREND_READ (R137). -/
def execTrendRead (p : Port) (pl : List Byte) (s : State) : Host.Outcome State Fault Refusal :=
  .next (s.takeRequest p .trendRead pl (serveTrendRead pl))

/-- LOG_READ (R146). -/
def execLogRead (p : Port) (pl : List Byte) (s : State) : Host.Outcome State Fault Refusal :=
  .next (s.takeRequest p .logRead pl (serveLogRead pl))

/-- LOG_CLEAR (R149). -/
def execLogClear (p : Port) (pl : List Byte) (s : State) : Host.Outcome State Fault Refusal :=
  .next (s.takeRequest p .logClear pl serveLogClear)

/-- NOTICE_TAKE (R156). -/
def execNoticeTake (p : Port) (pl : List Byte) (s : State) : Host.Outcome State Fault Refusal :=
  .next (s.takeRequest p .noticeTake pl (serveNoticeTake pl))

/-- NOTICE_MASK_SET (R155). -/
def execNoticeMaskSet (p : Port) (pl : List Byte) (s : State) : Host.Outcome State Fault Refusal :=
  .next (s.takeRequest p .noticeMaskSet pl (serveNoticeMaskSet pl))

/-- ATTENTION_SET (R157). -/
def execAttentionSet (p : Port) (pl : List Byte) (s : State) : Host.Outcome State Fault Refusal :=
  .next (s.takeRequest p .attentionSet pl (serveAttentionSet pl))

end Sys2Proof.Machine
end

