-- ==== Sys2Proof/Machine/Frames.lean ====
section
/-! DEFINITION. Frames on the ports: bytes, complete, ignored and damaged frames, and the end of a reply (R168 to R171). -/

namespace Sys2Proof.Machine

/-! ### Complete frames (R169, R170) -/

/-- A request handed to the block that owns its kind (R170). -/
def serveKind (k : RequestKind) (p : Port) (pl : List Byte) (s : State) : Answer × State :=
  match k with
  | .identify => serveIdentify p s
  | .status => serveStatus s
  | .conditionsTake => serveConditionsTake s
  | .start => serveStart s
  | .stop => serveStop pl s
  | .pause => servePause pl s
  | .resume => serveResume s
  | .restart => serveRestart pl s
  | .syncTime => serveSyncTime pl s
  | .timeResSet => serveTimeResSet pl s
  | .scanSet => serveScanSet pl s
  | .channelSet => serveChannelSet pl s
  | .channelEnable => serveChannelEnable pl s
  | .channelGet => serveChannelGet pl s
  | .channelStatus => serveChannelStatus pl s
  | .curveSet => serveCurveSet pl s
  | .curveGet => serveCurveGet pl s
  | .cardSet => serveCardSet pl s
  | .cardStatus => serveCardStatus pl s
  | .passSet => servePassSet pl s
  | .cellBind => serveCellBind pl s
  | .cellGet => serveCellGet pl s
  | .zoneSet => serveZoneSet pl s
  | .zoneGet => serveZoneGet pl s
  | .holdPass => serveHoldPass pl s
  | .releasePass => serveReleasePass pl s
  | .clearPeaks => serveClearPeaks pl s
  | .mapRead => serveMapRead pl s
  | .passSummary => servePassSummary pl s
  | .trendSet => serveTrendSet pl s
  | .trendRead => serveTrendRead pl s
  | .logRead => serveLogRead pl s
  | .logClear => serveLogClear s
  | .noticeTake => serveNoticeTake pl s
  | .noticeMaskSet => serveNoticeMaskSet pl s
  | .attentionSet => serveAttentionSet pl s
  | .permitSet => servePermitSet pl s

/-- A frame addressed to the part (R170): UNKNOWN for a kind that is none of the request kinds, else the
request is taken. -/
def State.takeKind (s : State) (p : Port) (kind : Byte) (pl : List Byte) : State :=
  match RequestKind.ofCode kind with
  | some k => s.takeRequest p k pl (serveKind k p pl)
  | none => if s.listening p then s.sendReply p kind ⟨.unknown, []⟩ else s

/-- A complete frame ends as ignored (R169): the port returns to HUNTING, and nothing else. -/
def State.ignoreFrame (s : State) (p : Port) : State := if s.listening p then s.hunt p else s

/-- A complete frame is handled by its address (R169). -/
def State.handleFrame (s : State) (p : Port) (address kind : Byte) (pl : List Byte) : State :=
  if address = s.link.stationAddress then s.takeKind p kind pl
  else if address = 0 && kind = RequestKind.syncTime.code then s.broadcastSync p pl
  else s.ignoreFrame p

/-! ### Bytes (R168) -/

/-- A frame ends as damaged (R168): HUNTING, and FRAME_ERROR set. A replying port holds no frame (R171). -/
def State.damageFrame (s : State) (p : Port) : State :=
  if s.listening p then (s.hunt p).setFrameError else s

/-- The number of bytes of a frame after its start byte, once its length byte is held (R167). -/
def frameLength (held : List Byte) : Nat := 3 + u8 held 2 + 2

/-- The bytes the check covers, and the check bytes received (R167). -/
def checkAgrees (held : List Byte) : Bool :=
  checkBytes (held.take (held.length - 2)) == held.drop (held.length - 2)

/-- What a port in ASSEMBLING does with the bytes it holds after a new one (R168). -/
def State.assembled (s : State) (p : Port) (held : List Byte) : State :=
  if held.length = 3 && 240 < u8 held 2 then s.damageFrame p
  else if 3 ≤ held.length && held.length = frameLength held then
    if checkAgrees held then
      s.handleFrame p (held.getD 0 0) (held.getD 1 0) ((held.drop 3).take (u8 held 2))
    else s.damageFrame p
  else s.setPort p ⟨.assembling held, (s.port p).reply⟩

/-- A byte received on a port (R168, R171). The byte that completes or damages a frame does what that
frame's row does. -/
def State.receiveByte (s : State) (p : Port) (b : Byte) : State :=
  if s.listening p then
    match (s.port p).assembly with
    | .hunting => if b = startByte then s.setPort p ⟨.assembling [], (s.port p).reply⟩ else s
    | .assembling held => s.assembled p (held ++ [b])
  else s

/-- More than 5 ms have passed since the last byte of a partial frame (R168); a port in HUNTING holds
none. -/
def State.gapTimeout (s : State) (p : Port) : State :=
  match (s.port p).assembly with
  | .hunting => s
  | .assembling _ => s.damageFrame p

/-- The last byte of the reply has been sent (R171): the port no longer replies, and is HUNTING. -/
def State.endReply (s : State) (p : Port) : State :=
  if s.operating && (s.port p).reply.isSome then s.setPort p PortState.reset else s

/-! ### The commands -/

/-- UNKNOWN_KIND_REQUEST (R170). A kind that is one of the 37 is taken as that kind (log entry 18). -/
def execUnknownKindRequest (p : Port) (kind : Byte) (pl : List Byte) (s : State) :
    Host.Outcome State Fault Refusal :=
  .next (s.takeKind p kind pl)

/-- FRAME_IGNORED (R169). -/
def execFrameIgnored (p : Port) (s : State) : Host.Outcome State Fault Refusal := .next (s.ignoreFrame p)

/-- FRAME_DAMAGED (R168). -/
def execFrameDamaged (p : Port) (s : State) : Host.Outcome State Fault Refusal := .next (s.damageFrame p)

/-- FRAME_GAP_TIMEOUT (R168). -/
def execFrameGapTimeout (p : Port) (s : State) : Host.Outcome State Fault Refusal := .next (s.gapTimeout p)

/-- REPLY_END (R171). -/
def execReplyEnd (p : Port) (s : State) : Host.Outcome State Fault Refusal := .next (s.endReply p)

/-- BYTE_RECEIVED (R168, R171). -/
def execByteReceived (p : Port) (b : Byte) (s : State) : Host.Outcome State Fault Refusal :=
  .next (s.receiveByte p b)

end Sys2Proof.Machine
end

