-- ==== Sys2Proof/Machine/Power.lean ====
section
/-! DEFINITION. The commands of the supply and the reset pin (R160, R168). -/

namespace Sys2Proof.Machine

/-- A port whose partial frame is discarded without FRAME_ERROR (R168), its reply as it was. -/
def PortState.dropFrame (q : PortState) : PortState := { q with assembly := .hunting }

/-- POWER_ON (R160): every block at its power-on values, POWER_ON set, the straps read. The reset pin
stands as it is. -/
def execPowerOn (straps : Straps) (s : State) : Host.Outcome State Fault Refusal :=
  .next { State.afterReset straps true s.draws s.pending with resetPin := s.resetPin }

/-- RESET_PIN_ASSERT (R160, R168): the pin is asserted, and partial frames are discarded without
FRAME_ERROR. While it is asserted the part takes nothing (`State.operating`), and the attention line is
released (`State.attentionLine`). -/
def execResetPinAssert (s : State) : Host.Outcome State Fault Refusal :=
  .next { s with
    resetPin := true
    link := { s.link with
      control := s.link.control.dropFrame, maintenance := s.link.maintenance.dropFrame } }

/-- RESET_PIN_RELEASE (R160): the reset values, POWER_ON as it was, the straps read. A part without
supply takes no values (log entry 9). -/
def execResetPinRelease (straps : Straps) (s : State) : Host.Outcome State Fault Refusal :=
  .next (if s.powered then State.afterReset straps s.notices.flags.powerOn s.draws s.pending
    else { s with resetPin := false })

/-- POWER_LOSS (R168): the supply is gone; work stops and partial frames are discarded without
FRAME_ERROR. A reply being sent ends with the supply (log entry 9). -/
def execPowerLoss (s : State) : Host.Outcome State Fault Refusal :=
  .next { s with
    powered := false
    link := { s.link with control := PortState.reset, maintenance := PortState.reset } }

end Sys2Proof.Machine
end

