-- ==== Sys2Proof/Machine/ScanEvents.lean ====
section
/-! DEFINITION. The events of the card link and of the scan interval timer: CONVERSION_ANSWER, COLD_JUNCTION_ANSWER, ANSWER_PERIOD_EXPIRY, SCAN_INTERVAL_TIMER_EXPIRY. -/

namespace Sys2Proof.Machine

/-- CONVERSION_ANSWER (R20, R33). -/
def execConversionAnswer (sound : Bool) (card : CardNo) (input : Fin 16) (emf : Int) (burnout : Bool)
    (s : State) : Host.Outcome State Fault Refusal :=
  .next (if s.operating then s.conversionArrives sound card input emf burnout else s)

/-- COLD_JUNCTION_ANSWER (R20, R68). -/
def execColdJunctionAnswer (sound : Bool) (card : CardNo) (temperature : Int) (s : State) :
    Host.Outcome State Fault Refusal :=
  .next (if s.operating then s.coldJunctionArrives sound card temperature else s)

/-- ANSWER_PERIOD_EXPIRY (R20, R23). -/
def execAnswerPeriodExpiry (s : State) : Host.Outcome State Fault Refusal :=
  .next (if s.operating then s.answerPeriodExpires else s)

/-- SCAN_INTERVAL_TIMER_EXPIRY (R38). -/
def execScanIntervalTimerExpiry (s : State) : Host.Outcome State Fault Refusal :=
  .next (if s.operating then s.timerExpires else s)

end Sys2Proof.Machine
end

