-- ==== Sys2Proof/Machine/Dispatch.lean ====
section
/-! DEFINITION. Dispatch: each command's meaning, one arm for each row of the table. -/

namespace Sys2Proof.Machine

/-- The effect of a command on everything but the queue. -/
def exec (i : Instr) (s : State) : Host.Outcome State Fault Refusal :=
  match i with
  | .powerOn straps => Sys2Proof.Machine.execPowerOn straps s
  | .resetPinAssert => Sys2Proof.Machine.execResetPinAssert s
  | .resetPinRelease straps => Sys2Proof.Machine.execResetPinRelease straps s
  | .identify port payload => Sys2Proof.Machine.execIdentify port payload s
  | .status port payload => Sys2Proof.Machine.execStatus port payload s
  | .conditionsTake port payload => Sys2Proof.Machine.execConditionsTake port payload s
  | .start port payload => Sys2Proof.Machine.execStart port payload s
  | .stop port payload => Sys2Proof.Machine.execStop port payload s
  | .pause port payload => Sys2Proof.Machine.execPause port payload s
  | .resume port payload => Sys2Proof.Machine.execResume port payload s
  | .restart port payload => Sys2Proof.Machine.execRestart port payload s
  | .syncTime port broadcast payload => Sys2Proof.Machine.execSyncTime port broadcast payload s
  | .timeResSet port payload => Sys2Proof.Machine.execTimeResSet port payload s
  | .scanSet port payload => Sys2Proof.Machine.execScanSet port payload s
  | .channelSet port payload => Sys2Proof.Machine.execChannelSet port payload s
  | .channelEnable port payload => Sys2Proof.Machine.execChannelEnable port payload s
  | .channelGet port payload => Sys2Proof.Machine.execChannelGet port payload s
  | .channelStatus port payload => Sys2Proof.Machine.execChannelStatus port payload s
  | .curveSet port payload => Sys2Proof.Machine.execCurveSet port payload s
  | .curveGet port payload => Sys2Proof.Machine.execCurveGet port payload s
  | .cardSet port payload => Sys2Proof.Machine.execCardSet port payload s
  | .cardStatus port payload => Sys2Proof.Machine.execCardStatus port payload s
  | .passSet port payload => Sys2Proof.Machine.execPassSet port payload s
  | .cellBind port payload => Sys2Proof.Machine.execCellBind port payload s
  | .cellGet port payload => Sys2Proof.Machine.execCellGet port payload s
  | .zoneSet port payload => Sys2Proof.Machine.execZoneSet port payload s
  | .zoneGet port payload => Sys2Proof.Machine.execZoneGet port payload s
  | .holdPass port payload => Sys2Proof.Machine.execHoldPass port payload s
  | .releasePass port payload => Sys2Proof.Machine.execReleasePass port payload s
  | .clearPeaks port payload => Sys2Proof.Machine.execClearPeaks port payload s
  | .mapRead port payload => Sys2Proof.Machine.execMapRead port payload s
  | .passSummary port payload => Sys2Proof.Machine.execPassSummary port payload s
  | .trendSet port payload => Sys2Proof.Machine.execTrendSet port payload s
  | .trendRead port payload => Sys2Proof.Machine.execTrendRead port payload s
  | .logRead port payload => Sys2Proof.Machine.execLogRead port payload s
  | .logClear port payload => Sys2Proof.Machine.execLogClear port payload s
  | .noticeTake port payload => Sys2Proof.Machine.execNoticeTake port payload s
  | .noticeMaskSet port payload => Sys2Proof.Machine.execNoticeMaskSet port payload s
  | .attentionSet port payload => Sys2Proof.Machine.execAttentionSet port payload s
  | .permitSet port payload => Sys2Proof.Machine.execPermitSet port payload s
  | .unknownKindRequest port kind payload => Sys2Proof.Machine.execUnknownKindRequest port kind payload s
  | .frameIgnored port => Sys2Proof.Machine.execFrameIgnored port s
  | .frameDamaged port => Sys2Proof.Machine.execFrameDamaged port s
  | .frameGapTimeout port => Sys2Proof.Machine.execFrameGapTimeout port s
  | .replyEnd port => Sys2Proof.Machine.execReplyEnd port s
  | .conversionAnswer sound card input emf burnout => Sys2Proof.Machine.execConversionAnswer sound card input emf burnout s
  | .coldJunctionAnswer sound card temperature => Sys2Proof.Machine.execColdJunctionAnswer sound card temperature s
  | .answerPeriodExpiry => Sys2Proof.Machine.execAnswerPeriodExpiry s
  | .scanIntervalTimerExpiry => Sys2Proof.Machine.execScanIntervalTimerExpiry s
  | .timeTagPeriodExpiry => Sys2Proof.Machine.execTimeTagPeriodExpiry s
  | .publication => Sys2Proof.Machine.execPublication s
  | .byteReceived port byte => Sys2Proof.Machine.execByteReceived port byte s
  | .powerLoss => Sys2Proof.Machine.execPowerLoss s

end Sys2Proof.Machine
end

