-- ==== Sys2Proof/Safety.lean ====
section
/-! DEFINITION. Safety: the conditions, reset values and laws in which the statements speak. -/

namespace Sys2Proof

/-- The request row of a kind; SYNC_TIME as addressed to the part. -/
def RequestKind.command (k : RequestKind) (p : Port) (pl : List Byte) : Instr :=
  match k with
  | .identify => .identify p pl
  | .status => .status p pl
  | .conditionsTake => .conditionsTake p pl
  | .start => .start p pl
  | .stop => .stop p pl
  | .pause => .pause p pl
  | .resume => .resume p pl
  | .restart => .restart p pl
  | .syncTime => .syncTime p false pl
  | .timeResSet => .timeResSet p pl
  | .scanSet => .scanSet p pl
  | .channelSet => .channelSet p pl
  | .channelEnable => .channelEnable p pl
  | .channelGet => .channelGet p pl
  | .channelStatus => .channelStatus p pl
  | .curveSet => .curveSet p pl
  | .curveGet => .curveGet p pl
  | .cardSet => .cardSet p pl
  | .cardStatus => .cardStatus p pl
  | .passSet => .passSet p pl
  | .cellBind => .cellBind p pl
  | .cellGet => .cellGet p pl
  | .zoneSet => .zoneSet p pl
  | .zoneGet => .zoneGet p pl
  | .holdPass => .holdPass p pl
  | .releasePass => .releasePass p pl
  | .clearPeaks => .clearPeaks p pl
  | .mapRead => .mapRead p pl
  | .passSummary => .passSummary p pl
  | .trendSet => .trendSet p pl
  | .trendRead => .trendRead p pl
  | .logRead => .logRead p pl
  | .logClear => .logClear p pl
  | .noticeTake => .noticeTake p pl
  | .noticeMaskSet => .noticeMaskSet p pl
  | .attentionSet => .attentionSet p pl
  | .permitSet => .permitSet p pl

/-- The port a command comes on, for the rows of the two ports. -/
def Instr.onPort : Instr → Option Port
  | .identify p _ => some p
  | .status p _ => some p
  | .conditionsTake p _ => some p
  | .start p _ => some p
  | .stop p _ => some p
  | .pause p _ => some p
  | .resume p _ => some p
  | .restart p _ => some p
  | .syncTime p _ _ => some p
  | .timeResSet p _ => some p
  | .scanSet p _ => some p
  | .channelSet p _ => some p
  | .channelEnable p _ => some p
  | .channelGet p _ => some p
  | .channelStatus p _ => some p
  | .curveSet p _ => some p
  | .curveGet p _ => some p
  | .cardSet p _ => some p
  | .cardStatus p _ => some p
  | .passSet p _ => some p
  | .cellBind p _ => some p
  | .cellGet p _ => some p
  | .zoneSet p _ => some p
  | .zoneGet p _ => some p
  | .holdPass p _ => some p
  | .releasePass p _ => some p
  | .clearPeaks p _ => some p
  | .mapRead p _ => some p
  | .passSummary p _ => some p
  | .trendSet p _ => some p
  | .trendRead p _ => some p
  | .logRead p _ => some p
  | .logClear p _ => some p
  | .noticeTake p _ => some p
  | .noticeMaskSet p _ => some p
  | .attentionSet p _ => some p
  | .permitSet p _ => some p
  | .unknownKindRequest p _ _ => some p
  | .frameIgnored p => some p
  | .frameDamaged p => some p
  | .frameGapTimeout p => some p
  | .replyEnd p => some p
  | .byteReceived p _ => some p
  | .powerOn _ => none
  | .resetPinAssert => none
  | .resetPinRelease _ => none
  | .conversionAnswer _ _ _ _ _ => none
  | .coldJunctionAnswer _ _ _ => none
  | .answerPeriodExpiry => none
  | .scanIntervalTimerExpiry => none
  | .timeTagPeriodExpiry => none
  | .publication => none
  | .powerLoss => none

/-- The rows of the supply and of the reset pin. -/
def Instr.isSupplyRow : Instr → Bool
  | .powerOn _ | .resetPinAssert | .resetPinRelease _ | .powerLoss => true
  | _ => false

namespace Machine

/-! ### Requests -/

/-- A request of the kind reaches its owner's checks on the port but for its length: the part operates,
the port is not replying, and the permission table permits the kind on the maintenance port (R160, R170
to R172). -/
def State.takes (s : State) (p : Port) (k : RequestKind) : Prop :=
  s.operating = true ∧ (s.port p).reply = none ∧ (p = .control ∨ s.link.permitted k = true)

/-- The state after its owner's answer to a request: MAINT_WRITE where R158 sets it, and the reply on
its port (R170). -/
def State.replied (s : State) (p : Port) (k : RequestKind) (code : ResultCode) (data : List Byte) : State :=
  (s.noteWrite p k code).sendReply p k.code ⟨code, data⟩

/-- The state after a refusal that carries nothing after the code: a reply, and no other change. -/
def State.refused (s : State) (p : Port) (k : RequestKind) (code : ResultCode) : State :=
  s.sendReply p k.code ⟨code, []⟩

/-- The result code byte of a reply frame (section 11.6). -/
def replyCode (reply : List Byte) : Option Byte := reply[4]?

/-- Commands taken one after another, each at the state the one before it left. -/
def runAll : List Instr → State → Host.Outcome State Fault Refusal
  | [], s => .next s
  | c :: cs, s =>
    match exec c s with
    | .next t => runAll cs t
    | .fault r => .fault r
    | .refused r => .refused r

/-! ### Reset values -/

/-- The values that the rules give for power-on and the reset pin in common, with the straps read so:
R3, R6, R8, R13, R15, R21, R24, R30, R32, R38, R39, R42, R58, R65, R67, R73, R78, R103, R125, R139, R152,
R154, R157, R160, R165, R168, R172. -/
structure ResetValues (straps : Straps) (t : State) : Prop where
  operating : t.op = ⟨.stopped, none, 0, .ms100⟩
  station : t.link.stationAddress = straps.address.setWidth 8 ∧ t.link.rate = straps.rate
  ports : ∀ p, t.port p = ⟨.hunting, none⟩
  permissions : ∀ k, t.link.permitted k = isReadKind k
  channels : ∀ c : ChannelNo, t.input.channels[c] =
    { card := ⟨c.val / 16, by omega⟩, input := ⟨c.val % 16, by omega⟩, enabled := false, curve := 0
      gain := 10000, offset := 0, lowClamp := -500, highClamp := 12000
      health := .disabled, badRun := 0, goodRun := 0, last := ⟨.none, none, false, false, 0⟩ }
  curves : ∀ n : Fin 4, t.input.curves[n] = []
  cards : ∀ k : CardNo, t.input.cards[k] = ⟨.unused, false, none, false, .none, 250⟩
  scan : t.input.interval = 10 ∧ t.input.scanNumber = 0 ∧ t.input.scan = .idle ∧ t.input.due = false
    ∧ t.input.outstanding = none
  passes : ∀ p : PassNo, t.map.passes[p] = ⟨32, none, false, 0, false⟩
  bindings : ∀ i : CellIndex, t.map.bindings[i] = ⟨none, none, .primary, true⟩
  cells : ∀ i : CellIndex, t.map.cells[i] =
    ⟨none, none, .void, .normal, ⟨false, false, false, false, false⟩, 0, 0, 0, 0, 0, none, false, none, 0, 0⟩
  zoneZero : t.map.zones[(0 : ZoneNo)] =
    ⟨true, 15, 0, 31, none, none, none, 20, 3, 2, 16, none, none⟩
  zones : ∀ z : ZoneNo, z ≠ 0 → t.map.zones[z] =
    ⟨false, 0, 0, 31, none, none, none, 20, 3, 2, 16, none, none⟩
  latch : (∀ z : ZoneNo, t.map.latch.zoneEdits[z] = none) ∧ (∀ p : PassNo, t.map.latch.holds[p] = none)
    ∧ ∀ p : PassNo, t.map.latch.peakClears[p] = none
  intake : t.map.computing = none ∧ t.map.waiting = none ∧ t.map.resumeMarker = false
  summaries : ∀ p : PassNo, t.map.published.summaries[p] =
    ⟨0, 0, 32, none, none, none, none, none, none, 0, 0, 0, 32, false, false⟩
  published : ∀ i : CellIndex, t.map.published.cells[i] = t.map.cells[i]
  pool : ∀ n : Fin 256, t.trend.pool[n] = none
  trends : ∀ p : PassNo, t.trend.passes[p] = ⟨.off, 0, 0, .first, 0⟩
  log : (∀ n : Fin 256, t.log.slots[n] = none) ∧ t.log.writePosition = 0 ∧ t.log.oldest = 0 ∧ t.log.count = 0
  notices : t.notices.queue = [] ∧ (∀ k : Fin 16, t.notices.kinds[k] = ⟨false, none⟩) ∧ t.notices.level = 2

/-! ### What is in transit -/

/-- One arrival (R97, R144): the first thing in transit of one of the streams is taken by its block. -/
def Arrives (timeTag : Word32) (f g : Flow) : Prop :=
  ∃ before x after, f.transit = before ++ x :: after ∧ (∀ y ∈ before, y.stream ≠ x.stream)
    ∧ g = Flow.receive timeTag { f with transit := before ++ after } x

/-- The emissions of one event in their order, with any arrivals before, between and after them. -/
inductive Emits (timeTag : Word32) : List Sent → Flow → Flow → Prop
  | done (f : Flow) : Emits timeTag [] f f
  | arrives {sent : List Sent} {f g h : Flow} (first : Arrives timeTag f g) (rest : Emits timeTag sent g h) :
      Emits timeTag sent f h
  | emits {x : Sent} {sent : List Sent} {f h : Flow} (rest : Emits timeTag sent (f.emitOne x) h) :
      Emits timeTag (x :: sent) f h

/-! ### Laws of the part -/

/-- The excursion log's law (R139, R140): at most 256 records, in the slots counted back from the write
position, numbered in order from the oldest sequence; every other slot is empty. -/
def LogLaw (l : Log) : Prop :=
  l.count ≤ 256 ∧
  ∀ d : Fin 256,
    let slot := l.slots[(⟨(l.writePosition.val + 256 - l.count + d.val) % 256, by omega⟩ : Fin 256)]
    if d.val < l.count then ∃ r, slot = some r ∧ r.sequence = l.oldest + BitVec.ofNat 16 d.val
    else slot = none

/-- The notice queue's law (R152) with the counts of R152 and R154. -/
def QueueLaw (u : NoticeUnit) : Prop :=
  u.queue.length ≤ 32
  ∧ u.queue.Pairwise (fun a b => a.notice ≠ b.notice)
  ∧ (∀ e ∈ u.queue, 1 ≤ e.repeats ∧ e.repeats ≤ 255)
  ∧ ∀ (k : Fin 16) (r : PendingRecord), u.kinds[k].pending = some r → 1 ≤ r.count ∧ r.count ≤ 255

/-- The law of a channel's runs (R58). -/
def HealthLaw (e : ChannelEntry) : Prop :=
  (e.badRun ≠ 0 → e.health = .suspect) ∧ (e.goodRun ≠ 0 → e.health = .failed)
  ∧ e.badRun ≤ 2 ∧ e.goodRun ≤ 2

/-- A pass's record demands valid frames alone of its stored frames: PAIRED, and RING with valid-only
yes (R132, R138). -/
def validOnly : TrendConfig → Bool
  | .paired _ => true
  | .ring _ _ v => v
  | _ => false

/-- The law of a pass's positions (R125, R126). -/
def PositionLaw (r : PassTrend) : Prop :=
  r.storedCount ≤ 1 ∧
  match r.config with
  | .ring _ size _ => r.writePosition < ringSlots size ∧ r.fillCount ≤ ringSlots size
  | _ => True

/-- The Trend Store's laws (R126, R132): allocations within the pool that share no slot, positions in
range, every stored frame one of its pass with at most 32 station entries, and none with a VOID entry
where the mode promises it. -/
def TrendLaw (t : Trend) : Prop :=
  (∀ (p : PassNo) (n : Nat), inAllocation t.passes[p].config n = true → n < 256)
  ∧ (∀ (p q : PassNo) (n : Nat), inAllocation t.passes[p].config n = true →
      inAllocation t.passes[q].config n = true → p = q)
  ∧ (∀ p : PassNo, PositionLaw t.passes[p])
  ∧ ∀ (p : PassNo) (k : Nat), k < storedFrames t.passes[p] →
      ∃ f, t.frameOfAge p k = some f ∧ f.pass = p ∧ f.entries.length ≤ 32
        ∧ (validOnly t.passes[p].config = true → frameValid f = true)

/-- The card request that the scan makes for a channel: its card's cold junction first (R33). -/
def requestFor (scan : OpenScan) (e : ChannelEntry) : CardRequest :=
  if scan.asked[e.card] then .conversion e.card e.input else .coldJunction e.card

/-- The law of the scan and of the intake (R30, R33, R38, R41, R73): which scan states an operating state
allows, when the timer runs and the due marker may be set, that an open scan always waits for one card
request, and that STOPPED holds no image. -/
def ScanLaw (s : State) : Prop :=
  (match s.input.scan with
    | .idle => s.op.state ≠ .running ∧ s.op.timer = none ∧ s.input.due = false
        ∧ ∀ o, s.input.outstanding = some o → o.aborted = true
    | .waiting => s.op.state = .running ∧ s.op.timer.isSome = true ∧ s.input.due = false
        ∧ ∀ o, s.input.outstanding = some o → o.aborted = true
    | .scanning scan => s.op.state = .running ∧ s.op.timer.isSome = true
        ∧ scan.number = s.input.scanNumber ∧ scan.remaining.Pairwise (· < ·)
        ∧ (∀ c ∈ scan.remaining, scan.readings[c] = none)
        ∧ ∃ c rest o, scan.remaining = c :: rest ∧ s.input.outstanding = some o
          ∧ s.input.cards[s.input.channels[c].card].lostInScan = false
          ∧ (o.aborted = false → o.request = requestFor scan s.input.channels[c]))
  ∧ (s.map.waiting.isSome = true → s.map.computing.isSome = true)
  ∧ (s.op.state = .stopped → s.map.computing = none ∧ s.map.resumeMarker = false)

/-- The law of a cell's quality, values, band and peak (R9, R10, R90); `held` is its pass's held field. -/
def CellLaw (held : Bool) (c : CellState) : Prop :=
  (c.quality = .void ↔ c.filtered = none) ∧ (c.quality = .void ↔ c.resolved = none)
  ∧ (held = true ↔ c.band = .held)
  ∧ (c.quality = .estimated → c.band ≠ .alarm ∧ c.band ≠ .limit)
  ∧ (c.quality = .void → held = false → c.band = .normal)
  ∧ (c.quality = .good → ∃ f p, c.filtered = some f ∧ c.peak = some p ∧ f ≤ p)

/-- A computation past its latch: the cells it will return to obey the law, and the working cells differ
from them in the previous-valid-for-rate marker alone (R77, R81). -/
def LatchedLaw (m : MapEngine) (c : Computation) : Prop :=
  (∀ i : CellIndex, isPresent m.passes i = true → CellLaw c.savedHeld[passOf i] c.savedCells[i]
    ∧ ∃ marker, m.cells[i] = { c.savedCells[i] with prevValid := marker })
  ∧ ∀ p : PassNo, c.released[p] = (c.savedHeld[p] && !m.passes[p].held)

/-- The map's law (R10, R90): the published map at every moment, and in a run the working states of the
present cells while no computation is past its latch (log entry 20). -/
def MapLaw (s : State) : Prop :=
  (∀ i : CellIndex, s.map.published.isPresent i = true →
    CellLaw s.map.published.summaries[passOf i].held s.map.published.cells[i])
  ∧ (s.op.state ≠ .stopped →
    match s.map.computing with
    | none => ∀ i : CellIndex, isPresent s.map.passes i = true →
        CellLaw s.map.passes[passOf i].held s.map.cells[i]
    | some c => LatchedLaw s.map c)

/-- An optional temperature is absent or lies within the device range (R89). -/
def InDeviceRange (x : Option Int) : Prop := ∀ v, x = some v → -500 ≤ v ∧ v ≤ 12000

/-- The temperatures of a cell lie within the device range (R8, R89). -/
def CellRange (c : CellState) : Prop :=
  InDeviceRange c.resolved ∧ InDeviceRange c.filtered ∧ InDeviceRange c.prevFiltered ∧ InDeviceRange c.peak

/-- The readings of an image lie within the device range (R54). -/
def ImageRange (image : ScanImage) : Prop := ∀ c : ChannelNo, InDeviceRange image.readings[c].value

/-- Every temperature of the readings, the map and its statistics lies within the device range (R54,
R65, R89). -/
structure RangeLaw (s : State) : Prop where
  lastReadings : ∀ c : ChannelNo, InDeviceRange s.input.channels[c].last.value
  openScan : ∀ scan, s.input.scan = .scanning scan →
    ∀ (c : ChannelNo) (r : Reading), scan.readings[c] = some r → InDeviceRange r.value
  waiting : ∀ m, s.map.waiting = some m → ImageRange m.image
  computing : ∀ c, s.map.computing = some c →
    ImageRange c.source.image ∧ ∀ i : CellIndex, CellRange c.savedCells[i]
  cells : ∀ i : CellIndex, CellRange s.map.cells[i]
  published : ∀ i : CellIndex, CellRange s.map.published.cells[i]
  statistics : ∀ p : PassNo, InDeviceRange s.map.published.summaries[p].hottestValue
    ∧ InDeviceRange s.map.published.summaries[p].coolestValue
    ∧ InDeviceRange s.map.published.summaries[p].mean

/-- The values of a zone record (R102), zone 0's fixed fields among them (R103, R104). -/
structure ZoneLaw (z : ZoneNo) (r : ZoneRecord) : Prop where
  stations : r.first ≤ r.last
  zoneZero : z = 0 → r.enabled = true ∧ r.passes = 15 ∧ r.first = 0 ∧ r.last = 31
  watch : InDeviceRange r.watch
  alarm : InDeviceRange r.alarm
  limit : InDeviceRange r.limit
  watchAlarm : ∀ a b, r.watch = some a → r.alarm = some b → a ≤ b
  alarmLimit : ∀ a b, r.alarm = some a → r.limit = some b → a ≤ b
  watchLimit : ∀ a b, r.watch = some a → r.limit = some b → a ≤ b
  hysteresis : r.hysteresis ≤ 500
  persistence : 1 ≤ r.persistence ∧ r.persistence ≤ 15
  holdAllowance : r.holdAllowance ≤ 15
  weight : 1 ≤ r.weight ∧ r.weight ≤ 16
  rateLimit : ∀ v, r.rateLimit = some v → 1 ≤ v ∧ v ≤ 5000
  discrepancy : ∀ v, r.discrepancy = some v → 1 ≤ v ∧ v ≤ 2000

/-- The law of a curve set (R42): empty, or 2 to 12 breakpoints in range that strictly increase. -/
def CurveLaw (curve : List Breakpoint) : Prop :=
  curve = [] ∨
  (2 ≤ curve.length ∧ curve.length ≤ 12
    ∧ (∀ b ∈ curve, -10000 ≤ b.emf ∧ b.emf ≤ 80000 ∧ -500 ≤ b.temp ∧ b.temp ≤ 12000)
    ∧ curve.Pairwise (fun a b => a.emf < b.emf ∧ a.temp < b.temp))

/-- The values of a channel's trim and clamps (R24). -/
def TrimLaw (e : ChannelEntry) : Prop :=
  9000 ≤ e.gain ∧ e.gain ≤ 11000 ∧ -500 ≤ e.offset ∧ e.offset ≤ 500
  ∧ -500 ≤ e.lowClamp ∧ e.lowClamp < e.highClamp ∧ e.highClamp ≤ 12000

/-- The configuration in its ranges and without routing conflicts (R3, R6, R24, R25, R39, R42, R67, R102). -/
structure SettingsLaw (s : State) : Prop where
  routing : ∀ c d : ChannelNo, s.input.channels[c].enabled = true → s.input.channels[d].enabled = true →
    s.input.channels[c].card = s.input.channels[d].card →
    s.input.channels[c].input = s.input.channels[d].input → c = d
  trims : ∀ c : ChannelNo, TrimLaw s.input.channels[c]
  curves : ∀ n : Fin 4, CurveLaw s.input.curves[n]
  interval : 5 ≤ s.input.interval ∧ s.input.interval ≤ 600
  substitutes : ∀ k : CardNo, -400 ≤ s.input.cards[k].substitute ∧ s.input.cards[k].substitute ≤ 1250
  passes : ∀ p : PassNo, 1 ≤ s.map.passes[p].stations ∧ s.map.passes[p].stations ≤ 32
    ∧ ∀ v, s.map.passes[p].spreadLimit = some v → 1 ≤ v ∧ v ≤ 5000
  bindings : ∀ i : CellIndex, s.map.bindings[i].secondary.isSome = true →
    s.map.bindings[i].primary.isSome = true ∧ s.map.bindings[i].secondary ≠ s.map.bindings[i].primary
  zones : ∀ z : ZoneNo, ZoneLaw z s.map.zones[z]
  edits : ∀ (z : ZoneNo) (e : Entry ZoneRecord), s.map.latch.zoneEdits[z] = some e → ZoneLaw z e.value
  savedZones : ∀ c, s.map.computing = some c → ∀ z : ZoneNo, ZoneLaw z c.savedZones[z]

end Machine

end Sys2Proof
end

