-- ==== Sys2Proof/Certificates/Slice0/Obligations.lean ====
section
/-! DEFINITION. The statements: what the commands and the part do, from the numbered rules of the spec. -/

open Sys2Proof Sys2Proof.Machine

/-! ### The step and the queue -/

/-- What a step or an event sends (R97, R144, R145): its emissions in their order, any arrivals of what is in
transit before, between and after them; with no emission nothing is taken. -/
def Emitted (sent : List Sent) (s t : State) : Prop :=
  Emits s.op.timeTag sent s.flow t.flow ∧ (sent = [] → t.flow = s.flow ∧ t.draws = s.draws)

/-- A step takes the command at the front of the queue and is that command's meaning on the state with
the queue's rest. With no command waiting one thing in transit between two blocks arrives, in a part that
operates, and otherwise the part idles, which is the model's choice (log entries 6 and 16). -/
def Obligations.StepRunsFrontCommand : Prop :=
  ∀ s : State,
    (∀ c rest, s.pending = c :: rest → step s = exec c { s with pending := rest })
    ∧ (s.pending = [] → (s.operating = false ∨ s.transit = []) → step s = .next s)
    ∧ (s.pending = [] → s.operating = true → s.transit ≠ [] →
      ∃ t : State, step s = .next t ∧ Arrives s.op.timeTag s.flow t.flow
        ∧ t = { s.withFlow t.flow with draws := t.draws })

/-- No command stops the part, and none touches the queue of waiting commands: each answers a next state
from every state. -/
def Obligations.CommandsCompleteAndLeaveQueue : Prop :=
  ∀ (c : Instr) (s : State), ∃ t : State, exec c s = .next t ∧ t.pending = s.pending

/-! ### Supply and reset pin (R158, R160, R168) -/

/-- POWER_ON and RESET_PIN_RELEASE bring every block to its reset values with the straps read;
power-on sets the POWER_ON flag, the reset pin keeps it. That a release of a pin that was not asserted does
so too is the model's choice (log entry 2), and so is that a reply being sent ends with the release (log
entry 8). -/
def Obligations.PowerOnAndResetValues : Prop :=
  ∀ (straps : Straps) (s : State),
    (∃ t : State, exec (.powerOn straps) s = .next t ∧ ResetValues straps t
      ∧ t.notices.flags = ⟨true, false, false, false⟩ ∧ t.powered = true)
    ∧ (s.powered = true →
      ∃ t : State, exec (.resetPinRelease straps) s = .next t ∧ ResetValues straps t
        ∧ t.notices.flags = ⟨s.notices.flags.powerOn, false, false, false⟩ ∧ t.resetPin = false)

/-- RESET_PIN_ASSERT drops partial frames without FRAME_ERROR and changes nothing else; a part held in
reset or without supply takes no command but those of the supply and the pin, and its attention line is
released. That such a part ignores every other row too is the model's choice (log entries 8 and 9). -/
def ResetPinHoldsThePart : Prop :=
  (∀ s : State, ∃ t : State, exec .resetPinAssert s = .next t ∧ t.resetPin = true
    ∧ (∀ p, t.port p = ⟨.hunting, (s.port p).reply⟩)
    ∧ t = { s with resetPin := true, link := t.link }
    ∧ t.link = { s.link with control := t.link.control, maintenance := t.link.maintenance })
  ∧ ∀ (c : Instr) (s : State), (s.resetPin = true ∨ s.powered = false) → c.isSupplyRow = false →
      exec c s = .next s ∧ s.attentionLine = false

/-- POWER_LOSS drops partial frames without FRAME_ERROR; that a reply being sent ends with the supply and
that the rest stays as it was, unobservable until power-on, is the model's choice (log entry 9), and so
is a release of the pin without supply. -/
def PowerLossDropsFrames : Prop :=
  ∀ (straps : Straps) (s : State),
    (∃ t : State, exec .powerLoss s = .next t ∧ t.powered = false ∧ (∀ p, t.port p = ⟨.hunting, none⟩)
      ∧ t = { s with powered := false, link := t.link }
      ∧ t.link = { s.link with control := t.link.control, maintenance := t.link.maintenance })
    ∧ (s.powered = false → exec (.resetPinRelease straps) s = .next { s with resetPin := false })

/-- The part held by its reset pin, and the part without supply. -/
def Obligations.HeldAndUnpoweredPart : Prop := ResetPinHoldsThePart ∧ PowerLossDropsFrames

/-! ### Frames and requests (chapter 11) -/

/-- BYTE_RECEIVED on a listening port: in HUNTING a byte 0xA7 starts a frame and any other is discarded;
in ASSEMBLING a byte that neither ends nor damages the frame is collected. A replying port discards it. -/
def BytesAreHuntedCollectedAndDiscarded : Prop :=
  ∀ (p : Port) (b : Byte) (s : State), s.operating = true →
    ((s.port p).reply ≠ none → exec (.byteReceived p b) s = .next s)
    ∧ (s.port p = ⟨.hunting, none⟩ →
        exec (.byteReceived p b) s = .next (if b = 0xA7 then s.setPort p ⟨.assembling [], none⟩ else s))
    ∧ (∀ held, s.port p = ⟨.assembling held, none⟩ →
        (held.length < 2 ∨ (held.length = 2 ∧ b.toNat ≤ 240)
          ∨ (3 ≤ held.length ∧ held.length + 1 < (held.getD 2 0).toNat + 5)) →
        exec (.byteReceived p b) s = .next (s.setPort p ⟨.assembling (held ++ [b]), none⟩))

/-- What ends a frame or a reply without an owner: FRAME_DAMAGED and a byte or gap that damages set
FRAME_ERROR and leave the port HUNTING; FRAME_IGNORED leaves it HUNTING and sets nothing; REPLY_END ends
the replying period; an unknown kind is answered UNKNOWN. -/
def FrameAndReplyEnds : Prop :=
  ∀ (p : Port) (s : State), s.operating = true →
    ((s.port p).reply = none →
      exec (.frameDamaged p) s = .next (s.setPort p ⟨.hunting, none⟩).setFrameError
      ∧ exec (.frameIgnored p) s = .next (s.setPort p ⟨.hunting, none⟩)
      ∧ (∀ held, (s.port p).assembly = .assembling held →
          exec (.frameGapTimeout p) s = .next (s.setPort p ⟨.hunting, none⟩).setFrameError)
      ∧ (∀ (b : Byte) (h0 h1 : Byte), (s.port p).assembly = .assembling [h0, h1] → 240 < b.toNat →
          exec (.byteReceived p b) s = .next (s.setPort p ⟨.hunting, none⟩).setFrameError)
      ∧ ∀ (kind : Byte) (pl : List Byte), RequestKind.ofCode kind = none → kind.toNat < 128 →
          exec (.unknownKindRequest p kind pl) s =
            .next (s.setPort p ⟨.hunting,
              some (frameBytes s.link.stationAddress (kind + 0x80) [1])⟩))
    ∧ (∀ reply, (s.port p).reply = some reply →
        exec (.replyEnd p) s = .next (s.setPort p ⟨.hunting, none⟩))

/-- BYTE_RECEIVED, and the ends of frames and replies. -/
def Obligations.BytesAndFrameEnds : Prop := BytesAreHuntedCollectedAndDiscarded ∧ FrameAndReplyEnds

/-- The bytes of a whole frame, received one by one on a HUNTING port that is not replying, do what the
frame's row does: a request of its kind, UNKNOWN, a broadcast SYNC_TIME, or an ignored frame. -/
def WholeFrameIsItsRow : Prop :=
  ∀ (p : Port) (s : State) (address kind : Byte) (pl : List Byte),
    s.operating = true → s.port p = ⟨.hunting, none⟩ → pl.length ≤ 240 → s.link.stationAddress ≠ 0 →
    runAll ((frameBytes address kind pl).map (.byteReceived p)) s =
      if address = s.link.stationAddress then
        match RequestKind.ofCode kind with
        | some k => exec (k.command p pl) s
        | none => exec (.unknownKindRequest p kind pl) s
      else if address = 0 ∧ kind = 0x18 then exec (.syncTime p true pl) s
      else exec (.frameIgnored p) s

/-- A whole frame whose received check differs from the computed one ends as damaged. -/
def BadCheckDamagesFrame : Prop :=
  ∀ (p : Port) (s : State) (address kind hi lo : Byte) (pl : List Byte),
    s.operating = true → s.port p = ⟨.hunting, none⟩ → pl.length ≤ 240 →
    hi ++ lo ≠ crc ([address, kind, BitVec.ofNat 8 pl.length] ++ pl) →
    runAll (([0xA7, address, kind, BitVec.ofNat 8 pl.length] ++ pl ++ [hi, lo]).map (.byteReceived p)) s =
      exec (.frameDamaged p) s

/-- A frame received byte by byte: a sound one does what its row does, one with a bad check is damaged. A
row stands for the event of its frame's last byte, which is the model's reading (log entry 15). -/
def Obligations.FrameBytesAreTheFramesRow : Prop := WholeFrameIsItsRow ∧ BadCheckDamagesFrame

/-- A reply's frame, byte by byte, and the port that sends it; the answer changes nothing else but the
MAINT_WRITE flag. -/
def Obligations.ReplyLayout : Prop :=
  ∀ (s : State) (p : Port) (k : RequestKind) (code : ResultCode) (data : List Byte), data.length ≤ 239 →
    let body := [s.link.stationAddress, k.code + 0x80, BitVec.ofNat 8 (data.length + 1), resultByte code] ++ data
    (s.replied p k code data).port p =
      ⟨.hunting, some ([0xA7] ++ body ++ [(crc body).extractLsb' 8 8, (crc body).extractLsb' 0 8])⟩
    ∧ ∃ flag, s.replied p k code data =
      ({ s with notices := { s.notices with flags := { s.notices.flags with maintWrite := flag } } }.setPort p
        ((s.replied p k code data).port p))

/-- The checks on a request of a known kind: PERMIT before FORMAT, each with a reply and no other change;
a replying port discards the request. Two of its points are the model's reading: that the PERMIT and FORMAT
replies of LOG_READ carry nothing after the code, as R170 says against R147, is that of log entry 22; and that
a replying port discards a whole request row as it does the frame's bytes is that of log entry 15. -/
def Obligations.RequestChecks : Prop :=
  ∀ (k : RequestKind) (p : Port) (pl : List Byte) (s : State), s.operating = true →
    ((s.port p).reply ≠ none → exec (k.command p pl) s = .next s)
    ∧ ((s.port p).reply = none →
      (p = .maintenance → s.link.permitted k = false →
        exec (k.command p pl) s = .next (s.refused p k .permit))
      ∧ ((p = .control ∨ s.link.permitted k = true) → lengthOk k pl.length = false →
        exec (k.command p pl) s = .next (s.refused p k .format)))

/-- A request answered with any code but DONE changes nothing but its port. -/
def RefusalChangesNothing : Prop :=
  ∀ (k : RequestKind) (p : Port) (pl : List Byte) (s t : State) (reply : List Byte),
    exec (k.command p pl) s = .next t → (t.port p).reply = some reply → replyCode reply ≠ some 0 →
    t = s.setPort p (t.port p)

/-- A request of a read kind changes nothing but its port. -/
def ReadsChangeOnlyTheirPort : Prop :=
  ∀ (k : RequestKind) (p : Port) (pl : List Byte) (s t : State), isReadKind k = true →
    exec (k.command p pl) s = .next t → t = s.setPort p (t.port p)

/-- Requests that change nothing but their port: those not answered DONE, and those of the read kinds. -/
def Obligations.RefusalsAndReadsChangeOnlyTheirPort : Prop := RefusalChangesNothing ∧ ReadsChangeOnlyTheirPort

/-- MAINT_WRITE: set by a request of a kind outside the read kinds that the maintenance port has answered
DONE, and by no request of the control port and no read. -/
def Obligations.MaintWriteMarksMaintenanceWrites : Prop :=
  (∀ (k : RequestKind) (pl : List Byte) (s t : State) (reply : List Byte), s.operating = true →
    (s.port .maintenance).reply = none → isReadKind k = false →
    exec (k.command .maintenance pl) s = .next t → (t.port .maintenance).reply = some reply →
    replyCode reply = some 0 → t.notices.flags.maintWrite = true)
  ∧ ∀ (k : RequestKind) (p : Port) (pl : List Byte) (s t : State), k ≠ .conditionsTake →
    (p = .control ∨ isReadKind k = true) → exec (k.command p pl) s = .next t →
    t.notices.flags.maintWrite = s.notices.flags.maintWrite

/-- The ports work independently: a command of one port leaves the other as it was, and a command of
neither port, the supply and the pin apart, leaves both. -/
def Obligations.PortsIndependent : Prop :=
  ∀ (c : Instr) (q : Port) (s t : State), c.isSupplyRow = false → c.onPort ≠ some q →
    exec c s = .next t → t.port q = s.port q

/-- Every reply fits the 240-byte payload: no reply frame is longer than 246 bytes. -/
def Obligations.RepliesFitTheFrame : Prop :=
  ∀ (c : Instr) (p : Port) (s t : State) (reply : List Byte), SettingsLaw s → TrendLaw s.trend →
    exec c s = .next t → (s.port p).reply = none → (t.port p).reply = some reply → reply.length ≤ 246

/-- What the default permission table, that of power-on, says of a kind on the maintenance port (R172). -/
def ByDefault (k : RequestKind) (permitted : Bool) : Prop :=
  ∀ (straps : Straps) (s : State),
    ∃ t : State, exec (.powerOn straps) s = .next t ∧ t.link.permitted k = permitted

/-- PERMIT_SET on the control port writes the entry of a kind and no other, and refuses a code that is no
kind, a permission that is neither yes nor no, and yes for PERMIT_SET itself. -/
def Obligations.PermitSetWritesOneEntry : Prop :=
  ∀ (code flag : Byte) (s : State), s.operating = true → (s.port .control).reply = none →
    (∀ k, RequestKind.ofCode code = some k → flag.toNat ≤ 1 → (k = .permitSet → flag = 0) →
      ∃ t : State, exec (.permitSet .control [code, flag]) s = .next (t.replied .control .permitSet .done [])
        ∧ t.link.permitted k = (flag == 1)
        ∧ (∀ j, j ≠ k → t.link.permitted j = s.link.permitted j)
        ∧ t = { s with link := { s.link with permits := t.link.permits } })
    ∧ ((RequestKind.ofCode code = none ∨ 1 < flag.toNat ∨ (code = 0x58 ∧ flag = 1)) →
      exec (.permitSet .control [code, flag]) s = .next (s.refused .control .permitSet .range))

/-- PERMIT_SET's own entry is refused after every step from a state where it is refused. -/
def Obligations.PermitSetStaysRefused : Prop :=
  ∀ s t : State, s.link.permitted .permitSet = false →
    step s = .next t → t.link.permitted .permitSet = false

/-- IDENTIFY, STATUS and CONDITIONS_TAKE: their replies, field by field, and the clearing of the four
flags by CONDITIONS_TAKE. -/
def Obligations.IdentityStatusAndConditions : Prop :=
  ∀ (p : Port) (s : State),
    (s.takes p .identify →
      exec (.identify p []) s = .next (s.replied p .identify .done
        ([0x10, 0x86, Config.firmwareMajor, Config.firmwareMinor, s.link.stationAddress,
            (match p with | .control => 0 | .maintenance => 1), rateByte s.link.rate,
            BitVec.ofNat 8 (RequestKind.all.countP fun k => s.link.permitted k)]
          ++ (RequestKind.all.filter fun k => s.link.permitted k).map RequestKind.code)))
    ∧ (s.takes p .status →
      exec (.status p []) s = .next (s.replied p .status .done
        ([opStateByte s.op.state] ++ put32 s.input.scanNumber ++ put32 s.op.timeTag
          ++ [conditionByte s.notices.flags, put8 s.notices.queue.length]
          ++ (List.range 4).map (fun level => put8 (s.notices.queue.countP fun e => e.level == level))
          ++ [put8 s.notices.level.val,
              if s.notices.queue.any (fun e => s.notices.level.val ≤ e.level) then 1 else 0])))
    ∧ (s.takes p .conditionsTake →
      exec (.conditionsTake p []) s = .next
        ({ s with notices := { s.notices with flags := ⟨false, false, false, false⟩ } }.replied p
          .conditionsTake .done [conditionByte s.notices.flags]))
    ∧ (RequestKind.all.map fun k => k.code.toNat).Pairwise (· < ·) ∧ ByDefault .status true

/-! ### Operating states and time (chapter 10) -/

/-- START's refusals: STATE outside STOPPED; CONFIG with item 1 when no channel is enabled; CONFIG with
item 2, the first enabled channel with an empty curve set and that set. -/
def Obligations.StartRefusals : Prop :=
  ∀ (p : Port) (s : State), s.takes p .start →
    (s.op.state ≠ .stopped → exec (.start p []) s = .next (s.refused p .start .state))
    ∧ (s.op.state = .stopped → (∀ c : ChannelNo, s.input.channels[c].enabled = false) →
      exec (.start p []) s = .next (s.replied p .start .config [1, 0xFF, 0xFF]))
    ∧ ∀ c : ChannelNo, s.op.state = .stopped → s.input.channels[c].enabled = true →
      s.input.curves[s.input.channels[c].curve] = [] →
      (∀ d < c, s.input.channels[d].enabled = true → s.input.curves[s.input.channels[d].curve] ≠ []) →
      exec (.start p []) s =
        .next (s.replied p .start .config [2, put8 c.val, put8 s.input.channels[c].curve.val])

/-- What START sets in the Map Engine (R3, R8, R15, R73, R78): the run state at its reset values; the
stations, spread limits, bindings, zones, zone edits and hold entries kept. -/
def MapStarted (m n : MapEngine) : Prop :=
  (∀ p : PassNo, n.passes[p] = ⟨m.passes[p].stations, m.passes[p].spreadLimit, false, 0, false⟩)
  ∧ n.bindings = m.bindings ∧ n.zones = m.zones ∧ n.latch.zoneEdits = m.latch.zoneEdits
  ∧ (∀ p : PassNo, n.latch.peakClears[p] = none)
  ∧ n.computing = none ∧ n.waiting = none
  ∧ (∀ i : CellIndex, n.cells[i] =
      ⟨none, none, .void, .normal, ⟨false, false, false, false, false⟩, 0, 0, 0, 0, 0, none, false, none, 0, 0⟩
      ∧ n.published.cells[i] = n.cells[i])
  ∧ ∀ p : PassNo, n.published.summaries[p] =
      ⟨0, 0, m.passes[p].stations, none, none, none, none, none, none, 0, 0, 0, m.passes[p].stations, false, false⟩

/-- What START sets in the Trend Store (R136): every pass emptied, its configuration kept, and no slot of
an allocation holding a frame. -/
def TrendStarted (t u : Trend) : Prop :=
  (∀ p : PassNo, u.passes[p] = ⟨t.passes[p].config, 0, 0, .first, 0⟩)
  ∧ ∀ n : Fin 256, u.pool[n] =
      if ∃ p : PassNo, inAllocation t.passes[p].config n.val = true then none else t.pool[n]

/-- What START sets of a channel (R58, R65): health by the enable field, runs 0, no last reading. -/
def ChannelStarted (e : ChannelEntry) : ChannelEntry :=
  { e with
    health := if e.enabled then .untested else .disabled
    badRun := 0, goodRun := 0, last := ⟨.none, none, false, false, 0⟩ }

/-- What START sets of a card (R21, R67): UNKNOWN if an enabled channel names it. -/
def CardStarted (s : State) (k : CardNo) (e : CardEntry) : Prop :=
  e.lostInScan = false ∧ e.lastGood = none ∧ e.cjHeld = false ∧ e.outcome = .none
  ∧ e.substitute = s.input.cards[k].substitute
  ∧ ((∃ c : ChannelNo, s.input.channels[c].enabled = true ∧ s.input.channels[c].card = k) →
      e.presence = .unknown)
  ∧ ((∀ c : ChannelNo, s.input.channels[c].enabled = true → s.input.channels[c].card ≠ k) →
      e.presence = .unused)

/-- A taken START begins a run: the run state of every block at its starting values, RUNNING, and a scan
open on the enabled channels with its first request sent. That what is in transit stays so is the model's choice
of log entry 6. -/
def Obligations.StartBeginsRun : Prop :=
  ∀ (p : Port) (s : State) (c : ChannelNo), s.takes p .start → s.op.state = .stopped →
    s.input.channels[c].enabled = true → (∀ d < c, s.input.channels[d].enabled = false) →
    (∀ d : ChannelNo, s.input.channels[d].enabled = true →
      s.input.curves[s.input.channels[d].curve] ≠ []) →
    ∃ t : State, exec (.start p []) s = .next (t.replied p .start .done [])
      ∧ t.op = { s.op with state := .running, timer := some s.input.interval }
      ∧ (∀ d : ChannelNo, t.input.channels[d] = ChannelStarted s.input.channels[d])
      ∧ t.input.curves = s.input.curves ∧ t.input.interval = s.input.interval ∧ t.input.due = s.input.due
      ∧ (∀ k : CardNo, CardStarted s k t.input.cards[k])
      ∧ t.input.scanNumber = (if s.input.scanNumber = 4294967295 then 1 else s.input.scanNumber + 1)
      ∧ (∃ scan, t.input.scan = .scanning scan ∧ scan.number = t.input.scanNumber
          ∧ scan.timeTag = s.op.timeTag ∧ scan.interval = s.input.interval
          ∧ scan.remaining = (List.finRange 96).filter (fun d => s.input.channels[d].enabled)
          ∧ (∀ d : ChannelNo, scan.readings[d] = none) ∧ ∀ k : CardNo, scan.asked[k] = false)
      ∧ (s.input.outstanding = none →
          t.input.outstanding = some ⟨.coldJunction s.input.channels[c].card, false⟩)
      ∧ (∀ o, s.input.outstanding = some o → t.input.outstanding = some o)
      ∧ MapStarted s.map t.map ∧ t.map.latch.holds = s.map.latch.holds ∧ t.map.resumeMarker = false
      ∧ TrendStarted s.trend t.trend
      ∧ t = { s with op := t.op, input := t.input, map := t.map, trend := t.trend }

/-- Some present cell of the published map stands in band LIMIT. -/
def LimitPublished (s : State) : Prop :=
  ∃ i : CellIndex, s.map.published.isPresent i = true ∧ s.map.published.cells[i].band = .limit

/-- STOP, PAUSE and RESTART as one family: the kind, and the operating states it is taken in. -/
def stopFamily : List (RequestKind × (OpState → Bool)) :=
  [(.stop, fun x => x != .stopped), (.pause, fun x => x == .running), (.restart, fun _ => true)]

/-- The force marker lets a stop pass the LIMIT test. -/
def StopPasses (force : Byte) (s : State) : Prop := force = 1 ∨ (force = 0 ∧ ¬ LimitPublished s)

/-- The checks of STOP, PAUSE and RESTART in their order: the force marker, the operating state, the
LIMIT test; a request that passes them is taken. -/
def Obligations.StopChecks : Prop :=
  ∀ (p : Port) (s : State) (force : Byte), ∀ x ∈ stopFamily, s.takes p x.1 →
    (1 < force.toNat → exec (x.1.command p [force]) s = .next (s.refused p x.1 .range))
    ∧ (force.toNat ≤ 1 → x.2 s.op.state = false →
        exec (x.1.command p [force]) s = .next (s.refused p x.1 .state))
    ∧ (force = 0 → x.2 s.op.state = true → LimitPublished s →
        exec (x.1.command p [force]) s = .next (s.refused p x.1 .condition))
    ∧ (x.2 s.op.state = true → StopPasses force s →
        ∃ t : State, exec (x.1.command p [force]) s = .next (t.replied p x.1 .done []))

/-- The Map Engine after its work is abandoned (R82, R101): zone table, held fields and cells as before
the latch of a computation in flight, taken marks clear, intake empty; nothing else changed. That the
resume marker is cleared with the engine READY too is the model's reading of R76 and R101 (log entry 19). -/
def MapAbandoned (m n : MapEngine) : Prop :=
  n.published = m.published ∧ n.bindings = m.bindings
  ∧ n.computing = none ∧ n.waiting = none ∧ n.resumeMarker = false
  ∧ (m.computing = none →
      n.zones = m.zones ∧ n.passes = m.passes ∧ n.cells = m.cells ∧ n.latch = m.latch)
  ∧ ∀ c, m.computing = some c →
      n.zones = c.savedZones ∧ n.cells = c.savedCells
      ∧ (∀ p : PassNo, n.passes[p] = { m.passes[p] with held := c.savedHeld[p] })
      ∧ (∀ z : ZoneNo, n.latch.zoneEdits[z] = m.latch.zoneEdits[z].map fun e => ⟨e.value, false⟩)
      ∧ (∀ p : PassNo, n.latch.holds[p] = m.latch.holds[p].map fun e => ⟨e.value, false⟩)
      ∧ ∀ p : PassNo, n.latch.peakClears[p] = m.latch.peakClears[p].map fun e => ⟨e.value, false⟩

/-- The scan work aborted (R40, R41), the operating state as given. -/
def ScanAborted (state : OpState) (s t : State) : Prop :=
  t.op = { s.op with state := state, timer := none }
  ∧ t.input = { s.input with
      scan := .idle, due := false
      outstanding := s.input.outstanding.map fun o => ⟨o.request, true⟩ }

/-- A taken STOP aborts the scan, abandons the Map Engine's work and enters STOPPED; the published map,
trends, log and queue stay. -/
def StopAbandonsWork : Prop :=
  ∀ (p : Port) (s : State) (force : Byte), s.takes p .stop → s.op.state ≠ .stopped → StopPasses force s →
    ∃ t : State, exec (.stop p [force]) s = .next (t.replied p .stop .done [])
      ∧ ScanAborted .stopped s t ∧ MapAbandoned s.map t.map
      ∧ t = { s with op := t.op, input := t.input, map := t.map }

/-- A taken PAUSE aborts the scan, leaves the Map Engine at work and enters PAUSED. -/
def PauseLeavesTheMapEngine : Prop :=
  ∀ (p : Port) (s : State) (force : Byte), s.takes p .pause → s.op.state = .running → StopPasses force s →
    ∃ t : State, exec (.pause p [force]) s = .next (t.replied p .pause .done [])
      ∧ ScanAborted .paused s t
      ∧ t = { s with op := t.op, input := t.input }

/-- STOP and PAUSE, taken; the resume marker after STOP is the reading of log entry 19, and that what is in
transit stays so is the model's choice of log entry 6. -/
def Obligations.StopAndPause : Prop := StopAbandonsWork ∧ PauseLeavesTheMapEngine

/-- A channel with its enable field applied at the open of scan `number` (R28, R65). -/
def EnableApplied (number : Word32) (e : ChannelEntry) : ChannelEntry :=
  if e.enabled = true ∧ e.health = .disabled then { e with health := .untested }
  else if e.enabled = false ∧ e.health ≠ .disabled then
    { e with
      health := .disabled, badRun := 0, goodRun := 0, last := ⟨.disabled, none, false, false, number⟩ }
  else e

/-- The Input Processor with a scan just opened, `c` being the first enabled channel (R21, R28, R31 to
R33, R41): number, healths, cards, a new image on the enabled channels, and the first request unless one
is still outstanding. -/
def ScanOpened (c : ChannelNo) (s t : State) : Prop :=
  t.input.scanNumber = (if s.input.scanNumber = 4294967295 then 1 else s.input.scanNumber + 1)
  ∧ t.op.timer = some s.input.interval
  ∧ (∀ d : ChannelNo, t.input.channels[d] = EnableApplied t.input.scanNumber s.input.channels[d])
  ∧ (∀ k : CardNo,
      t.input.cards[k] = { s.input.cards[k] with lostInScan := false, presence := t.input.cards[k].presence }
      ∧ ((∃ d : ChannelNo, s.input.channels[d].enabled = true ∧ s.input.channels[d].card = k) →
          t.input.cards[k].presence =
            if s.input.cards[k].presence = .unused then .unknown else s.input.cards[k].presence)
      ∧ ((∀ d : ChannelNo, s.input.channels[d].enabled = true → s.input.channels[d].card ≠ k) →
          t.input.cards[k].presence = .unused))
  ∧ (∃ scan, t.input.scan = .scanning scan ∧ scan.number = t.input.scanNumber
      ∧ scan.timeTag = s.op.timeTag ∧ scan.interval = s.input.interval
      ∧ scan.remaining = (List.finRange 96).filter (fun d => s.input.channels[d].enabled)
      ∧ (∀ d : ChannelNo, scan.readings[d] = none) ∧ ∀ k : CardNo, scan.asked[k] = false)
  ∧ (s.input.outstanding = none →
      t.input.outstanding = some ⟨.coldJunction s.input.channels[c].card, false⟩)
  ∧ (∀ o, s.input.outstanding = some o → t.input.outstanding = some o)
  ∧ t.input.curves = s.input.curves ∧ t.input.interval = s.input.interval ∧ t.input.due = s.input.due

/-- The Input Processor with a scan just opened and closed on an empty scan list (R31, R37): no request
sent, no channel on the list, and an image of 96 DISABLED readings at the Map Engine's intake. -/
def EmptyScanTaken (s t : State) : Prop :=
  t.input = { s.input with
    scanNumber := if s.input.scanNumber = 4294967295 then 1 else s.input.scanNumber + 1
    channels := t.input.channels
    cards := tab fun k => { s.input.cards[k] with presence := .unused, lostInScan := false }
    scan := .waiting }
  ∧ (∀ d : ChannelNo, t.input.channels[d] = EnableApplied t.input.scanNumber s.input.channels[d])
  ∧ t.op = { s.op with timer := some s.input.interval }
  ∧ ∃ image : ScanImage, image.number = t.input.scanNumber ∧ image.timeTag = s.op.timeTag
    ∧ image.interval = s.input.interval
    ∧ (∀ d : ChannelNo, image.readings[d] = ⟨.disabled, none, false, false, false⟩)
    ∧ t = { s.imageArrives image with op := t.op, input := t.input }

/-- A taken RESUME sets the resume marker, enters RUNNING and opens a scan at once, on the enabled channels
or on an empty list; outside PAUSED it is refused with STATE. -/
def Obligations.ResumeOpensScan : Prop :=
  ∀ (p : Port) (s : State), s.takes p .resume →
    let resumed : State := { s with op := { s.op with state := .running }
                                    map := { s.map with resumeMarker := true } }
    (s.op.state ≠ .paused → exec (.resume p []) s = .next (s.refused p .resume .state))
    ∧ (s.op.state = .paused →
      (∀ d : ChannelNo, s.input.channels[d].enabled = false) →
      ∃ t : State, exec (.resume p []) s = .next (t.replied p .resume .done []) ∧ EmptyScanTaken resumed t)
    ∧ ∀ c : ChannelNo, s.op.state = .paused → s.input.channels[c].enabled = true →
      (∀ d < c, s.input.channels[d].enabled = false) →
      ∃ t : State, exec (.resume p []) s = .next (t.replied p .resume .done [])
        ∧ ScanOpened c s t ∧ t = { resumed with op := { resumed.op with timer := t.op.timer }, input := t.input }

/-- A taken RESTART ends all work, sets the run state as START does, and clears the hold entries, the
scan number, the log, the queue and the pending records; it enters STOPPED with no scan open. That what is in
transit stays so is the model's choice of log entry 6, on which R164 is silent; that the resume marker is
cleared with a READY engine too is the reading of log entry 19. -/
def Obligations.RestartClearsTheRun : Prop :=
  ∀ (p : Port) (s : State) (force : Byte), s.takes p .restart → StopPasses force s →
    ∃ (t : State) (m : MapEngine), exec (.restart p [force]) s = .next (t.replied p .restart .done [])
      ∧ t.op = { s.op with state := .stopped, timer := none }
      ∧ (∀ d : ChannelNo, t.input.channels[d] = ChannelStarted s.input.channels[d])
      ∧ (∀ k : CardNo, CardStarted s k t.input.cards[k])
      ∧ t.input.curves = s.input.curves ∧ t.input.interval = s.input.interval
      ∧ t.input.scanNumber = 0 ∧ t.input.scan = .idle ∧ t.input.due = false
      ∧ t.input.outstanding = s.input.outstanding.map (fun o => ⟨o.request, true⟩)
      ∧ MapAbandoned s.map m ∧ MapStarted m t.map ∧ (∀ q : PassNo, t.map.latch.holds[q] = none)
      ∧ t.map.resumeMarker = false
      ∧ TrendStarted s.trend t.trend
      ∧ (∀ n : Fin 256, t.log.slots[n] = none) ∧ t.log.writePosition = 0 ∧ t.log.oldest = 0 ∧ t.log.count = 0
      ∧ t.notices.queue = []
      ∧ (∀ k : Fin 16, t.notices.kinds[k] = ⟨s.notices.kinds[k].masked, none⟩)
      ∧ t.notices = { s.notices with queue := t.notices.queue, kinds := t.notices.kinds }
      ∧ t = { s with op := t.op, input := t.input, map := t.map, trend := t.trend, log := t.log
                     notices := t.notices }

/-- The state with a time tag. -/
def timeSet (s : State) (count : Word32) : State := { s with op := { s.op with timeTag := count } }

/-- SYNC_TIME addressed to the part (CLEAR, SET, RANGE), SYNC_TIME as a broadcast (taken with no reply, or
ignored), and TIME_RES_SET. -/
def TimeRequests : Prop :=
  ∀ (p : Port) (s : State) (form b3 b2 b1 b0 : Byte),
    (s.takes p .syncTime →
      exec (.syncTime p false [form, b3, b2, b1, b0]) s = .next
        (if form = 0 then (timeSet s 0).replied p .syncTime .done []
         else if form = 1 then (timeSet s (b3 ++ b2 ++ b1 ++ b0)).replied p .syncTime .done []
         else s.refused p .syncTime .range))
    ∧ (s.operating = true → s.port p = ⟨.hunting, none⟩ →
      exec (.syncTime p true [form, b3, b2, b1, b0]) s = .next
        (if (p = .control ∨ s.link.permitted .syncTime = true) ∧ form.toNat ≤ 1 then
          let t := timeSet s (if form = 0 then 0 else b3 ++ b2 ++ b1 ++ b0)
          match p with
          | .control => t
          | .maintenance => t.setMaintWrite
        else s))
    ∧ (s.takes p .timeResSet →
      exec (.timeResSet p [form]) s = .next
        (match form.toNat with
         | 0 => { s with op := { s.op with resolution := .ms10 } }.replied p .timeResSet .done []
         | 1 => { s with op := { s.op with resolution := .ms100 } }.replied p .timeResSet .done []
         | 2 => { s with op := { s.op with resolution := .s1 } }.replied p .timeResSet .done []
         | _ => s.refused p .timeResSet .range))

/-- The end of a period of the resolution raises the time tag by one; from 4294967295 it becomes 0 and a
TIME_WRAP notice is sent. -/
def TimeTagCountsAndWraps : Prop :=
  ∀ s : State, s.operating = true →
    (s.op.timeTag ≠ 4294967295 → exec .timeTagPeriodExpiry s = .next (timeSet s (s.op.timeTag + 1)))
    ∧ (s.op.timeTag = 4294967295 →
      ∃ t : State, exec .timeTagPeriodExpiry s = .next t
        ∧ Emitted [.notice ⟨.timeWrap, none⟩] (timeSet s 0) t
        ∧ t = { (timeSet s 0).withFlow t.flow with draws := t.draws })

/-- The time tag: its requests and its counting. -/
def Obligations.TimeTagAndResolution : Prop := TimeRequests ∧ TimeTagCountsAndWraps

/-! ### Configuration of the inputs (chapters 2 to 4) -/

/-- SCAN_SET writes an interval of 5 to 600 s and refuses any other; CARD_SET writes a substitute of −400
to 1250 in STOPPED and refuses any other card, substitute or state. -/
def Obligations.ScanSetAndCardSet : Prop :=
  ∀ (p : Port) (s : State) (card hi lo : Byte),
    (s.takes p .scanSet →
      exec (.scanSet p [hi, lo]) s = .next
        (if 5 ≤ (hi ++ lo).toNat ∧ (hi ++ lo).toNat ≤ 600 then
          { s with input := { s.input with interval := (hi ++ lo).toNat } }.replied p .scanSet .done []
        else s.refused p .scanSet .range))
    ∧ (s.takes p .cardSet →
      (s.op.state ≠ .stopped → exec (.cardSet p [card, hi, lo]) s = .next (s.refused p .cardSet .state))
      ∧ (s.op.state = .stopped →
          (6 ≤ card.toNat ∨ (hi ++ lo).toInt < -400 ∨ 1250 < (hi ++ lo).toInt) →
          exec (.cardSet p [card, hi, lo]) s = .next (s.refused p .cardSet .range))
      ∧ ∀ k : CardNo, s.op.state = .stopped → card = put8 k.val → -400 ≤ (hi ++ lo).toInt →
          (hi ++ lo).toInt ≤ 1250 →
          exec (.cardSet p [card, hi, lo]) s = .next
            ({ s with input := { s.input with cards := upd s.input.cards k fun e =>
                { e with substitute := (hi ++ lo).toInt } } }.replied p .cardSet .done []))
    ∧ ByDefault .scanSet false ∧ ByDefault .cardSet false

/-- Another enabled channel than `c` names the card and input (R25). -/
def RoutingTaken (s : State) (c : ChannelNo) (card : CardNo) (input : Fin 16) : Prop :=
  ∃ d : ChannelNo, d ≠ c ∧ s.input.channels[d].enabled = true ∧ s.input.channels[d].card = card
    ∧ s.input.channels[d].input = input

/-- CHANNEL_SET writes the seven fields of a channel in STOPPED and is refused with STATE, RANGE or
CONFLICT otherwise. -/
def ChannelSetWrites : Prop :=
  ∀ (p : Port) (s : State) (b0 b1 b2 b3 g1 g0 o1 o0 l1 l0 h1 h0 : Byte), s.takes p .channelSet →
    let pl := [b0, b1, b2, b3, g1, g0, o1, o0, l1, l0, h1, h0]
    let gain := (g1 ++ g0).toInt
    let offset := (o1 ++ o0).toInt
    let low := (l1 ++ l0).toInt
    let high := (h1 ++ h0).toInt
    let trimOk := 9000 ≤ gain ∧ gain ≤ 11000 ∧ -500 ≤ offset ∧ offset ≤ 500 ∧ -500 ≤ low ∧ low < high
      ∧ high ≤ 12000
    (s.op.state ≠ .stopped → exec (.channelSet p pl) s = .next (s.refused p .channelSet .state))
    ∧ (s.op.state = .stopped →
        (96 ≤ b0.toNat ∨ 6 ≤ b1.toNat ∨ 16 ≤ b2.toNat ∨ 4 ≤ b3.toNat ∨ ¬ trimOk) →
        exec (.channelSet p pl) s = .next (s.refused p .channelSet .range))
    ∧ ∀ (c : ChannelNo) (card : CardNo) (input : Fin 16) (curve : Fin 4), s.op.state = .stopped →
      b0 = put8 c.val → b1 = put8 card.val → b2 = put8 input.val → b3 = put8 curve.val → trimOk →
      (s.input.channels[c].enabled = true → RoutingTaken s c card input →
        exec (.channelSet p pl) s = .next (s.refused p .channelSet .conflict))
      ∧ ((s.input.channels[c].enabled = false ∨ ¬ RoutingTaken s c card input) →
        exec (.channelSet p pl) s = .next
          ({ s with input := { s.input with channels := upd s.input.channels c fun e =>
              { e with
                card := card, input := input, curve := curve, gain := gain, offset := offset
                lowClamp := low, highClamp := high } } }.replied p .channelSet .done []))

/-- CHANNEL_ENABLE writes the enable field in every operating state, and is refused with RANGE, or with
CONFLICT where it would enable a second channel on one input. -/
def ChannelEnableWrites : Prop :=
  ∀ (p : Port) (s : State) (b flag : Byte), s.takes p .channelEnable →
    ((96 ≤ b.toNat ∨ 1 < flag.toNat) →
      exec (.channelEnable p [b, flag]) s = .next (s.refused p .channelEnable .range))
    ∧ ∀ c : ChannelNo, b = put8 c.val → flag.toNat ≤ 1 →
      (flag = 1 → s.input.channels[c].enabled = false →
        RoutingTaken s c s.input.channels[c].card s.input.channels[c].input →
        exec (.channelEnable p [b, flag]) s = .next (s.refused p .channelEnable .conflict))
      ∧ ((flag = 0 ∨ s.input.channels[c].enabled = true
          ∨ ¬ RoutingTaken s c s.input.channels[c].card s.input.channels[c].input) →
        exec (.channelEnable p [b, flag]) s = .next
          ({ s with input := { s.input with channels := upd s.input.channels c fun e =>
              { e with enabled := flag == 1 } } }.replied p .channelEnable .done []))

/-- CHANNEL_SET and CHANNEL_ENABLE. -/
def Obligations.ChannelSetAndEnable : Prop := ChannelSetWrites ∧ ChannelEnableWrites

/-- A breakpoint as CURVE_SET and CURVE_GET send it: EMF in four bytes, temperature in two. -/
def breakpointBytes (b : Breakpoint) : List Byte := put32 (BitVec.ofInt 32 b.emf) ++ put16 b.temp

/-- CURVE_SET replaces a whole curve set by a list that obeys the law of R42, and CURVE_GET then returns
just that list; outside STOPPED, and for a length that disagrees with the count, it is refused. -/
def Obligations.CurveSetReplacesAndGetReturns : Prop :=
  ∀ (p : Port) (s : State) (n : Fin 4),
    (s.takes p .curveSet →
      (∀ curve : List Breakpoint, s.op.state = .stopped → curve ≠ [] → CurveLaw curve →
        exec (.curveSet p ([put8 n.val, put8 curve.length] ++ curve.flatMap breakpointBytes)) s = .next
          ({ s with input := { s.input with curves := upd s.input.curves n fun _ => curve } }.replied p
            .curveSet .done []))
      ∧ (∀ pl : List Byte, s.op.state ≠ .stopped → lengthOk .curveSet pl.length = true →
        exec (.curveSet p pl) s = .next (s.refused p .curveSet .state))
      ∧ (∀ (b count : Byte) (rest : List Byte), s.op.state = .stopped →
        rest.length ≠ 6 * count.toNat →
        exec (.curveSet p ([b, count] ++ rest)) s = .next (s.refused p .curveSet .format))
      ∧ (∀ (b : Byte) (curve : List Breakpoint), s.op.state = .stopped → curve.length ≤ 255 →
        (∀ x ∈ curve, -2147483648 ≤ x.emf ∧ x.emf ≤ 2147483647 ∧ -32768 ≤ x.temp ∧ x.temp ≤ 32767) →
        (4 ≤ b.toNat ∨ curve = [] ∨ ¬ CurveLaw curve) →
        exec (.curveSet p ([b, put8 curve.length] ++ curve.flatMap breakpointBytes)) s =
          .next (s.refused p .curveSet .range)))
    ∧ (s.takes p .curveGet →
      exec (.curveGet p [put8 n.val]) s = .next (s.replied p .curveGet .done
        ([put8 n.val, put8 s.input.curves[n].length] ++ s.input.curves[n].flatMap breakpointBytes))
      ∧ ∀ b : Byte, 4 ≤ b.toNat → exec (.curveGet p [b]) s = .next (s.refused p .curveGet .range))
    ∧ ByDefault .curveGet true

/-- CHANNEL_GET, CHANNEL_STATUS and CARD_STATUS: their replies, field by field, and RANGE for a number
that is none. -/
def Obligations.InputReads : Prop :=
  ∀ (p : Port) (s : State),
    (s.takes p .channelGet →
      (∀ c : ChannelNo, exec (.channelGet p [put8 c.val]) s = .next (s.replied p .channelGet .done
        (let e := s.input.channels[c]
         [put8 c.val, put8 e.card.val, put8 e.input.val, putBool e.enabled, put8 e.curve.val]
          ++ put16 e.gain ++ put16 e.offset ++ put16 e.lowClamp ++ put16 e.highClamp)))
      ∧ ∀ b : Byte, 96 ≤ b.toNat → exec (.channelGet p [b]) s = .next (s.refused p .channelGet .range))
    ∧ (s.takes p .channelStatus →
      (∀ c : ChannelNo, exec (.channelStatus p [put8 c.val]) s = .next (s.replied p .channelStatus .done
        (let e := s.input.channels[c]
         [put8 c.val, putBool e.enabled, healthByte e.health, put8 e.badRun, put8 e.goodRun,
            statusByte e.last.status] ++ putOpt16 e.last.value
          ++ [BitVec.ofNat 8 ((if e.last.clamped then 1 else 0) + (if e.last.cjHeld then 2 else 0))]
          ++ put32 e.last.scanNumber)))
      ∧ ∀ b : Byte, 96 ≤ b.toNat →
        exec (.channelStatus p [b]) s = .next (s.refused p .channelStatus .range))
    ∧ (s.takes p .cardStatus →
      (∀ k : CardNo, exec (.cardStatus p [put8 k.val]) s = .next (s.replied p .cardStatus .done
        (let e := s.input.cards[k]
         [put8 k.val, presenceByte e.presence, putBool e.lostInScan] ++ putOpt16 e.lastGood
          ++ [putBool e.cjHeld, outcomeByte e.outcome] ++ put16 e.substitute)))
      ∧ ∀ b : Byte, 6 ≤ b.toNat → exec (.cardStatus p [b]) s = .next (s.refused p .cardStatus .range))
    ∧ ByDefault .channelGet true ∧ ByDefault .channelStatus true ∧ ByDefault .cardStatus true

/-! ### Conversion and the scan (chapters 2 to 4) -/

/-- The one rounding rule: the result is the only integer within half of the quotient, an exact half
going toward positive infinity. -/
def RoundingIsToNearestHalfUp : Prop :=
  ∀ n d q : Int, 0 < d → (roundDiv n d = q ↔ 2 * d * q - d ≤ 2 * n ∧ 2 * n < 2 * d * q + d)

/-- A curve read forward gives a temperature within the curve's span; within the EMF span the status is
OK and every breakpoint gives its own temperature, outside it the nearer end is given. -/
def ForwardReadingStaysOnTheCurve : Prop :=
  ∀ (curve : List Breakpoint) (first last : Breakpoint) (ec : Int), CurveLaw curve →
    curve.head? = some first → curve.getLast? = some last →
    (let r := forwardReading curve ec
     first.temp ≤ r.1 ∧ r.1 ≤ last.temp
     ∧ (ec < first.emf → r = (first.temp, .rangeLow))
     ∧ (last.emf < ec → r = (last.temp, .rangeHigh))
     ∧ (first.emf ≤ ec → ec ≤ last.emf → r.2 = .ok))
    ∧ ∀ b ∈ curve, forwardReading curve b.emf = (b.temp, .ok)

/-- A conversion: the bad statuses have no value and no mark; a good reading has a value within the
channel's clamps, is marked CLAMPED for a range status, and CJ_HELD as the card is. -/
def ConversionReadings : Prop :=
  ∀ (e : ChannelEntry) (curve : List Breakpoint) (k : CardEntry) (emf : Int),
    convert e curve k emf true = ⟨.burnout, none, false, false, false⟩
    ∧ ((emf < -10000 ∨ 80000 < emf ∨ curve = []) →
        convert e curve k emf false = ⟨.invalid, none, false, false, false⟩)
    ∧ (-10000 ≤ emf → emf ≤ 80000 → curve ≠ [] → e.lowClamp < e.highClamp →
        ∃ v, (convert e curve k emf false).value = some v ∧ e.lowClamp ≤ v ∧ v ≤ e.highClamp
          ∧ (convert e curve k emf false).cjHeld = k.cjHeld
          ∧ ((convert e curve k emf false).status = .ok
              ∨ ((convert e curve k emf false).status = .rangeLow
                  ∨ (convert e curve k emf false).status = .rangeHigh)
                ∧ (convert e curve k emf false).clamped = true))

/-- A curve's segment (R48, R49, R51): two breakpoints that follow one another. -/
def SegmentOf (curve : List Breakpoint) (a b : Breakpoint) : Prop :=
  ∃ before after, curve = before ++ a :: b :: after

/-- The cold-junction EMF: the curve read backwards in the segment of the temperature, the end segments
extended beyond the curve's span; and the forward reading in the segment of the EMF. -/
def CurveIsReadBySegments : Prop :=
  ∀ (curve : List Breakpoint) (a b : Breakpoint), CurveLaw curve → SegmentOf curve a b →
    (∀ t : Int, (a.temp ≤ t ∨ curve.head? = some a) → (t ≤ b.temp ∨ curve.getLast? = some b) →
      coldJunctionEmf curve t = a.emf + roundDiv ((t - a.temp) * (b.emf - a.emf)) (b.temp - a.temp))
    ∧ ∀ ec : Int, a.emf ≤ ec → ec ≤ b.emf →
      forwardReading curve ec =
        (a.temp + roundDiv ((ec - a.emf) * (b.temp - a.temp)) (b.emf - a.emf), .ok)

/-- The stages of a conversion one after another: the temperature in force is the card's last good one, or
its substitute where there is none; its EMF is added; the curve is read forward; the gain is applied and
rounded, the offset added, and the sum limited to the clamps. -/
def ConversionGoesByStages : Prop :=
  ∀ (e : ChannelEntry) (curve : List Breakpoint) (k : CardEntry) (emf tcj : Int),
    -10000 ≤ emf → emf ≤ 80000 → curve ≠ [] → e.lowClamp < e.highClamp →
    (k.lastGood = some tcj ∨ (k.lastGood = none ∧ tcj = k.substitute)) →
    let forward := forwardReading curve (emf + coldJunctionEmf curve tcj)
    let trimmed := roundDiv (forward.1 * e.gain) 10000 + e.offset
    (convert e curve k emf false).status = forward.2
    ∧ (convert e curve k emf false).value = some (max e.lowClamp (min e.highClamp trimmed))
    ∧ ((convert e curve k emf false).clamped = true ↔
        forward.2 ≠ .ok ∨ trimmed < e.lowClamp ∨ e.highClamp < trimmed)
    ∧ (convert e curve k emf false).cjHeld = k.cjHeld

/-- The conversion of a reading. -/
def Obligations.ConversionStages : Prop :=
  ForwardReadingStaysOnTheCurve ∧ ConversionReadings ∧ CurveIsReadBySegments ∧ ConversionGoesByStages

/-- The debounce of a channel: from GOOD or UNTESTED three bad readings in a row fail it and no fewer, and
a FAILED channel recovers at the third good reading in a row; `r` readings move it one by one. -/
def Obligations.DebounceCountsThree : Prop :=
  let move (m : HealthMove) (good : Bool) : HealthMove := moveHealth good m.health m.badRun m.goodRun
  ∀ h : Health,
    ((h = .good ∨ h = .untested) →
      [false].foldl move ⟨h, 0, 0⟩ = ⟨.suspect, 1, 0⟩
      ∧ [false, false].foldl move ⟨h, 0, 0⟩ = ⟨.suspect, 2, 0⟩
      ∧ [false, false, false].foldl move ⟨h, 0, 0⟩ = ⟨.failed, 0, 0⟩
      ∧ [true].foldl move ⟨h, 0, 0⟩ = ⟨.good, 0, 0⟩)
    ∧ (∀ b, move ⟨.suspect, b, 0⟩ true = ⟨.good, 0, 0⟩)
    ∧ [true].foldl move ⟨.failed, 0, 0⟩ = ⟨.failed, 0, 1⟩
    ∧ [true, true].foldl move ⟨.failed, 0, 0⟩ = ⟨.failed, 0, 2⟩
    ∧ [true, true, true].foldl move ⟨.failed, 0, 0⟩ = ⟨.good, 0, 0⟩
    ∧ ∀ g, move ⟨.failed, 0, g⟩ false = ⟨.failed, 0, 0⟩

/-- The open scan waits on its channel `c` for the request made for it; of the channels after it those of
`missed` stand on lost cards and `d` is the next on another card, the lost cards being those of `lost`. -/
structure ScanAt (s : State) (scan : OpenScan) (lost : CardNo → Prop) (c : ChannelNo)
    (missed : List ChannelNo) (d : ChannelNo) (rest : List ChannelNo) : Prop where
  operating : s.operating = true
  open_ : s.input.scan = .scanning scan
  turn : scan.remaining = c :: missed ++ d :: rest
  once : (c :: missed).Nodup
  waits : s.input.outstanding = some ⟨requestFor scan s.input.channels[c], false⟩
  missedCards : ∀ x ∈ missed, lost s.input.channels[x].card
  nextCard : ¬ lost s.input.channels[d].card

/-- A channel after a reading with a health move (R60, R65). -/
def ChannelAfter (number : Word32) (r : Reading) (e : ChannelEntry) : ChannelEntry :=
  let m := moveHealth r.status.isGood e.health e.badRun e.goodRun
  { e with
    health := m.health, badRun := m.badRun, goodRun := m.goodRun
    last := ⟨r.status, r.value, r.clamped, r.cjHeld, number⟩ }

/-- What a reading's health move emits (R61, R62): a record, and a notice of the channel. -/
def healthEmissions (s : State) (c : ChannelNo) (r : Reading) : List Sent :=
  let e := s.input.channels[c]
  let record (k : RecordKind) : Sent :=
    .record ⟨k, s.op.timeTag, s.input.scanNumber, .channel c, none, r.value, none, none, none, none⟩
  match e.health, (ChannelAfter s.input.scanNumber r e).health with
  | .suspect, .failed => [record .channelFailed, .notice ⟨.channelFailed, some c.val⟩]
  | .failed, .good => [record .channelRecovered, .notice ⟨.channelRecovered, some c.val⟩]
  | _, _ => []

/-- The reading of a card lost in the scan. -/
def missing : Reading := ⟨.missing, none, false, false, false⟩

/-- What a card's return from LOST emits (R22): a record. -/
def cardBackEmissions (s : State) (k : CardNo) : List Sent :=
  if s.input.cards[k].presence = .lost then
    [.record ⟨.cardBack, s.op.timeTag, s.input.scanNumber, .card k, none, none, none, none, none, none⟩]
  else []

/-- What the loss of a card emits (R23): a record, and a notice of the card. -/
def cardLostEmissions (s : State) (k : CardNo) : List Sent :=
  if s.input.cards[k].presence = .lost then []
  else
    [.record ⟨.cardLost, s.op.timeTag, s.input.scanNumber, .card k, none, none, none, none, none, none⟩,
      .notice ⟨.cardLost, some k.val⟩]

/-- A card after an expired request to it (R23, R68); `asked` says that the request was a conversion. -/
def CardAfterExpiry (asked : Bool) (k : CardEntry) : CardEntry :=
  if asked = true then { k with presence := .lost, lostInScan := true }
  else { k with presence := .lost, lostInScan := true, cjHeld := true, outcome := .noAnswer }

/-- What an arriving image emits where it replaces the waiting one (R74): a notice of that one's scan number. -/
def skipEmissions (m : MapEngine) : List Sent :=
  match m.computing, m.waiting with
  | some _, some old => [.notice ⟨.mapSkipped, some (old.image.number.toNat % 65536)⟩]
  | _, _ => []

/-- The readings that one event gives (R23, R33, R60 to R65): `c` takes `r` and each channel of `missed` is
MISSING; each of them is moved, and its reading has its usable field from the state after the move. -/
structure ReadingsGiven (s : State) (c : ChannelNo) (missed : List ChannelNo) (r : Reading)
    (channels : Vector ChannelEntry 96) (reading : ChannelNo → Option Reading) : Prop where
  moved : ∀ x : ChannelNo, channels[x] =
    if x = c then ChannelAfter s.input.scanNumber r s.input.channels[x]
    else if x ∈ missed then ChannelAfter s.input.scanNumber missing s.input.channels[x]
    else s.input.channels[x]
  taken : reading c = some { r with usable := channels[c].health == .good }
  missing : ∀ x ∈ missed, reading x = some ⟨.missing, none, false, false, channels[x].health == .good⟩

/-- The state after a reading `r` of channel `c` within an open scan that goes on with `d`: the readings
given, the next request sent, and what the card (`first`) and the health moves emit, sent in that order. -/
def ReadingTaken (s : State) (scan : OpenScan) (c : ChannelNo) (missed : List ChannelNo) (d : ChannelNo)
    (rest : List ChannelNo) (r : Reading) (cards : Vector CardEntry 6) (first : List Sent)
    (t : State) : Prop :=
  (∃ readings : Vector (Option Reading) 96,
    ReadingsGiven s c missed r t.input.channels (fun x => readings[x])
    ∧ (∀ x : ChannelNo, x ∉ c :: missed → readings[x] = scan.readings[x])
    ∧ t.input = { s.input with
        channels := t.input.channels
        cards := cards
        scan := .scanning { scan with remaining := d :: rest, readings := readings }
        outstanding := some ⟨requestFor scan s.input.channels[d], false⟩ })
  ∧ Emitted (first ++ healthEmissions s c r ++ missed.flatMap fun x => healthEmissions s x missing) s t
  ∧ t = { s.withFlow t.flow with input := t.input, draws := t.draws }

/-- The state after the last reading of a scan, the due marker being clear (R33 to R36): the readings given,
the image, all 96 readings of it, at the Map Engine's intake, and the part WAITING. -/
def ScanClosed (s : State) (scan : OpenScan) (c : ChannelNo) (missed : List ChannelNo) (r : Reading)
    (cards : Vector CardEntry 6) (first : List Sent) (t : State) : Prop :=
  ∃ image : ScanImage, image.number = scan.number ∧ image.timeTag = scan.timeTag
    ∧ image.interval = scan.interval
    ∧ ReadingsGiven s c missed r t.input.channels (fun x => some image.readings[x])
    ∧ (∀ x : ChannelNo, x ∉ c :: missed →
        image.readings[x] = (scan.readings[x]).getD ⟨.disabled, none, false, false, false⟩)
    ∧ t.input = { s.input with
        channels := t.input.channels, cards := cards, scan := .waiting, outstanding := none }
    ∧ t.map = (s.imageArrives image).map
    ∧ Emitted (first ++ healthEmissions s c r ++ (missed.flatMap fun x => healthEmissions s x missing)
        ++ skipEmissions s.map) s t
    ∧ t = { s.withFlow t.flow with input := t.input, map := t.map, draws := t.draws }

/-- A matching conversion answer is taken: its conversion moves the channel, the card is PRESENT with a
CARD_BACK record if it was LOST, and the scan goes on with the next channel whose card is not lost. What is
emitted goes to the log and the Notice Unit, each in its order. -/
def Obligations.ConversionAnswerTaken : Prop :=
  ∀ (s : State) (scan : OpenScan) (c d : ChannelNo) (missed rest : List ChannelNo) (emf : Int)
    (burnout : Bool),
    ScanAt s scan (fun k => s.input.cards[k].lostInScan = true) c missed d rest →
    scan.asked[s.input.channels[c].card] = true →
    let e := s.input.channels[c]
    let card := s.input.cards[e.card]
    ∃ t : State, exec (.conversionAnswer true e.card e.input emf burnout) s = .next t
      ∧ ReadingTaken s scan c missed d rest (convert e s.input.curves[e.curve] card emf burnout)
          (upd s.input.cards e.card fun k => { k with presence := .present })
          (cardBackEmissions s e.card) t

/-- A matching cold-junction answer is taken: it moves the card's fields by its validity, the card is
PRESENT with a CARD_BACK record if it was LOST, and the conversion request follows. -/
def Obligations.ColdJunctionAnswerTaken : Prop :=
  ∀ (s : State) (scan : OpenScan) (c : ChannelNo) (rest : List ChannelNo) (temp : Int),
    s.operating = true → s.input.scan = .scanning scan → scan.remaining = c :: rest →
    let e := s.input.channels[c]
    let card := s.input.cards[e.card]
    s.input.outstanding = some ⟨.coldJunction e.card, false⟩ → card.lostInScan = false →
    ∃ t : State, exec (.coldJunctionAnswer true e.card temp) s = .next t
      ∧ t.input = { s.input with
          cards := upd s.input.cards e.card fun k =>
            if -400 ≤ temp ∧ temp ≤ 1250 then
              { k with presence := .present, lastGood := some temp, cjHeld := false, outcome := .valid }
            else { k with presence := .present, cjHeld := true, outcome := .invalid }
          scan := .scanning { scan with asked := upd scan.asked e.card fun _ => true }
          outstanding := some ⟨.conversion e.card e.input, false⟩ }
      ∧ Emitted (cardBackEmissions s e.card) s t
      ∧ t = { s.withFlow t.flow with input := t.input, draws := t.draws }

/-- The answer period expires: the card is lost for the scan, and LOST with a CARD_LOST record and notice if
it was not, a cold-junction request sets NO_ANSWER, the channel's reading is MISSING, and the scan goes on
with the next channel whose card is not lost. What is emitted goes to the log and the Notice Unit, each in
its order. -/
def Obligations.AnswerPeriodExpiryLosesCard : Prop :=
  ∀ (s : State) (scan : OpenScan) (c d : ChannelNo) (missed rest : List ChannelNo),
    let e := s.input.channels[c]
    ScanAt s scan (fun k => k = e.card ∨ s.input.cards[k].lostInScan = true) c missed d rest →
    ∃ t : State, exec .answerPeriodExpiry s = .next t
      ∧ ReadingTaken s scan c missed d rest missing
          (upd s.input.cards e.card (CardAfterExpiry scan.asked[e.card])) (cardLostEmissions s e.card) t

/-- An answer that does not match the outstanding request is discarded, and an answer or expiry of a
request of an aborted scan only frees the card link: it gives no reading and moves nothing, and a new
scan's first request, which waited for it, is sent. -/
def Obligations.DiscardedAnswersHaveNoEffect : Prop :=
  ∀ (s : State) (sound : Bool) (card : CardNo) (input : Fin 16) (emf temp : Int) (burnout : Bool),
    s.operating = true →
    ((∀ o, s.input.outstanding = some o → sound = true → o.request ≠ .conversion card input) →
      exec (.conversionAnswer sound card input emf burnout) s = .next s)
    ∧ ((∀ o, s.input.outstanding = some o → sound = true → o.request ≠ .coldJunction card) →
      exec (.coldJunctionAnswer sound card temp) s = .next s)
    ∧ ((s.input.scan = .idle ∨ s.input.scan = .waiting) →
      let freed : State := { s with input := { s.input with outstanding := none } }
      (s.input.outstanding = some ⟨.conversion card input, true⟩ →
        exec (.conversionAnswer true card input emf burnout) s = .next freed)
      ∧ (s.input.outstanding = some ⟨.coldJunction card, true⟩ →
        exec (.coldJunctionAnswer true card temp) s = .next freed)
      ∧ ∀ r, s.input.outstanding = some ⟨r, true⟩ → exec .answerPeriodExpiry s = .next freed)
    ∧ ∀ (scan : OpenScan) (c : ChannelNo) (rest : List ChannelNo) (r : CardRequest),
      s.input.scan = .scanning scan → scan.remaining = c :: rest →
      s.input.cards[s.input.channels[c].card].lostInScan = false → s.input.outstanding = some ⟨r, true⟩ →
      let first : State := { s with input := { s.input with
        outstanding := some ⟨requestFor scan s.input.channels[c], false⟩ } }
      (r = .conversion card input → exec (.conversionAnswer true card input emf burnout) s = .next first)
      ∧ (r = .coldJunction card → exec (.coldJunctionAnswer true card temp) s = .next first)
      ∧ exec .answerPeriodExpiry s = .next first

/-- The open scan waits on its channel `c` for the request made for it, and every channel after it, those of
`missed`, stands on a lost card, the lost cards being those of `lost`. -/
structure ScanAtEnd (s : State) (scan : OpenScan) (lost : CardNo → Prop) (c : ChannelNo)
    (missed : List ChannelNo) : Prop where
  operating : s.operating = true
  open_ : s.input.scan = .scanning scan
  turn : scan.remaining = c :: missed
  once : (c :: missed).Nodup
  waits : s.input.outstanding = some ⟨requestFor scan s.input.channels[c], false⟩
  missedCards : ∀ x ∈ missed, lost s.input.channels[x].card

/-- The last conversion answer of a scan: no channel after `c`, or channels on cards lost in the scan. -/
def EndsByAnswer (s : State) (scan : OpenScan) (c : ChannelNo) (missed : List ChannelNo) : Prop :=
  scan.asked[s.input.channels[c].card] = true
  ∧ ScanAtEnd s scan (fun k => s.input.cards[k].lostInScan = true) c missed

/-- The last expiry of a scan: no channel after `c`, or channels on cards lost in the scan, that of `c`
among them. -/
def EndsByExpiry (s : State) (scan : OpenScan) (c : ChannelNo) (missed : List ChannelNo) : Prop :=
  ScanAtEnd s scan (fun k => k = s.input.channels[c].card ∨ s.input.cards[k].lostInScan = true) c missed

/-- The last reading of a scan closes it in that event, be it an answer's or an expired period's (R23, R36):
channel, card and log move as at any reading, and with the due marker clear the part is WAITING and the
image is at the Map Engine's intake. -/
def LastReadingDeliversImage : Prop :=
  ∀ (s : State) (scan : OpenScan) (c : ChannelNo) (missed : List ChannelNo) (emf : Int) (burnout : Bool),
    s.input.due = false →
    let e := s.input.channels[c]
    (EndsByAnswer s scan c missed →
      ∃ t : State, exec (.conversionAnswer true e.card e.input emf burnout) s = .next t
        ∧ ScanClosed s scan c missed (convert e s.input.curves[e.curve] s.input.cards[e.card] emf burnout)
            (upd s.input.cards e.card fun k => { k with presence := .present })
            (cardBackEmissions s e.card) t)
    ∧ (EndsByExpiry s scan c missed →
      ∃ t : State, exec .answerPeriodExpiry s = .next t
        ∧ ScanClosed s scan c missed missing
            (upd s.input.cards e.card (CardAfterExpiry scan.asked[e.card])) (cardLostEmissions s e.card) t)

/-- With the due marker set a scan's last reading does the same, clears the marker, sends SCAN_LATE and
opens the next scan at once: on the enabled channels, the first of which is `d`, or, with none enabled, on
an empty list that closes at once. -/
def LateScanOpensTheNext : Prop :=
  ∀ (s : State) (scan : OpenScan) (c : ChannelNo) (missed : List ChannelNo) (emf : Int) (burnout : Bool)
    (event : Instr), s.input.due = true →
    let e := s.input.channels[c]
    (event = .conversionAnswer true e.card e.input emf burnout ∧ EndsByAnswer s scan c missed
      ∨ event = .answerPeriodExpiry ∧ EndsByExpiry s scan c missed) →
    ∃ t late u : State, exec event { s with input := { s.input with due := false } } = .next t
      ∧ Emitted [.notice ⟨.scanLate, none⟩] t late ∧ late = { t.withFlow late.flow with draws := late.draws }
      ∧ exec event s = .next u
      ∧ (∀ d : ChannelNo, s.input.channels[d].enabled = true →
          (∀ x < d, s.input.channels[x].enabled = false) →
          ScanOpened d late u
          ∧ u = { late with op := { late.op with timer := u.op.timer }, input := u.input })
      ∧ ((∀ x : ChannelNo, s.input.channels[x].enabled = false) → EmptyScanTaken late u)

/-- The close of a scan. -/
def Obligations.LastReadingClosesScan : Prop := LastReadingDeliversImage ∧ LateScanOpensTheNext

/-- The interval timer's expiry: in WAITING a scan opens, on the enabled channels or on an empty list, and in
SCANNING the due marker is set. That an expiry while IDLE, which R38 rules out, does nothing is the model's
choice (log entry 10). -/
def Obligations.TimerExpiryOpensOrMarks : Prop :=
  ∀ (s : State) (interval : Nat), s.operating = true → s.op.timer = some interval →
    (s.input.scan = .idle → exec .scanIntervalTimerExpiry s = .next s)
    ∧ (∀ scan, s.input.scan = .scanning scan →
        exec .scanIntervalTimerExpiry s = .next { s with input := { s.input with due := true } })
    ∧ (s.input.scan = .waiting → (∀ d : ChannelNo, s.input.channels[d].enabled = false) →
        ∃ t : State, exec .scanIntervalTimerExpiry s = .next t ∧ EmptyScanTaken s t)
    ∧ ∀ c : ChannelNo, s.input.scan = .waiting → s.input.channels[c].enabled = true →
        (∀ d < c, s.input.channels[d].enabled = false) →
        ∃ t : State, exec .scanIntervalTimerExpiry s = .next t ∧ ScanOpened c s t
          ∧ t = { s with op := { s.op with timer := t.op.timer }, input := t.input }

/-! ### The map: configuration and controls (chapters 1, 5 and 6) -/

/-- The map with a pass's station count and spread limit written (R4, R5): the positions from the lower of
the two counts on have the default binding and the reset cell state, and nothing else changes. -/
def PassWritten (m n : MapEngine) (p : PassNo) (stations : Nat) (spreadLimit : Option Int) : Prop :=
  n = { m with passes := n.passes, bindings := n.bindings, cells := n.cells }
  ∧ n.passes = upd m.passes p (fun e => { e with stations := stations, spreadLimit := spreadLimit })
  ∧ ∀ i : CellIndex,
    (passOf i ≠ p ∨ (stationOf i).val < min m.passes[p].stations stations →
      n.bindings[i] = m.bindings[i] ∧ n.cells[i] = m.cells[i])
    ∧ (passOf i = p → min m.passes[p].stations stations ≤ (stationOf i).val →
      n.bindings[i] = ⟨none, none, .primary, true⟩ ∧ n.cells[i] =
        ⟨none, none, .void, .normal, ⟨false, false, false, false, false⟩, 0, 0, 0, 0, 0, none, false, none, 0, 0⟩)

/-- PASS_SET writes a pass's station count and spread limit in STOPPED, with the consequences for its
cells, and is refused with STATE or RANGE otherwise. -/
def PassSetWrites : Prop :=
  ∀ (s : State) (port : Port) (b count hi lo : Byte), s.takes port .passSet →
    let limit := (hi ++ lo).toInt
    (s.op.state ≠ .stopped →
      exec (.passSet port [b, count, hi, lo]) s = .next (s.refused port .passSet .state))
    ∧ (s.op.state = .stopped →
        (4 ≤ b.toNat ∨ count = 0 ∨ 32 < count.toNat ∨ (limit ≠ -32768 ∧ (limit < 1 ∨ 5000 < limit))) →
        exec (.passSet port [b, count, hi, lo]) s = .next (s.refused port .passSet .range))
    ∧ ∀ p : PassNo, s.op.state = .stopped → b = put8 p.val → 1 ≤ count.toNat → count.toNat ≤ 32 →
      (limit = -32768 ∨ (1 ≤ limit ∧ limit ≤ 5000)) →
      ∃ t : State, exec (.passSet port [b, count, hi, lo]) s = .next (t.replied port .passSet .done [])
        ∧ t = { s with map := t.map }
        ∧ PassWritten s.map t.map p count.toNat (if limit = -32768 then none else some limit)

/-- The channel field of a CELL_BIND: 0xFF for absent. -/
def channelField (c : Option ChannelNo) : Byte := (c.map fun k => put8 k.val).getD 0xFF

/-- CELL_BIND replaces the binding of a present cell in STOPPED, and is refused with STATE or RANGE
otherwise. -/
def CellBindWrites : Prop :=
  ∀ (s : State) (p : Port), s.takes p .cellBind →
    (∀ b0 b1 b2 b3 b4 : Byte,
      (s.op.state ≠ .stopped →
        exec (.cellBind p [b0, b1, b2, b3, b4]) s = .next (s.refused p .cellBind .state))
      ∧ (s.op.state = .stopped →
        (128 ≤ b0.toNat ∨ (∃ i : CellIndex, b0 = put8 i.val ∧ isPresent s.map.passes i = false)
          ∨ (96 ≤ b1.toNat ∧ b1 ≠ 0xFF) ∨ (96 ≤ b2.toNat ∧ b2 ≠ 0xFF)
          ∨ (b2 ≠ 0xFF ∧ (b1 = 0xFF ∨ b1 = b2)) ∨ 2 < b3.toNat ∨ 1 < b4.toNat) →
        exec (.cellBind p [b0, b1, b2, b3, b4]) s = .next (s.refused p .cellBind .range)))
    ∧ ∀ (i : CellIndex) (b : Binding), s.op.state = .stopped → isPresent s.map.passes i = true →
      (b.secondary.isSome = true → b.primary.isSome = true ∧ b.secondary ≠ b.primary) →
      exec (.cellBind p [put8 i.val, channelField b.primary, channelField b.secondary,
          combineByte b.combine, putBool b.logEnable]) s =
        .next ({ s with map := { s.map with bindings := upd s.map.bindings i fun _ => b } }.replied p
          .cellBind .done [])

/-- PASS_SET and CELL_BIND. That the record of an absent position stands at the default binding and the
reset cell state is the model's reading (log entry 14), and so is band NORMAL for a position that becomes
present in a pass still held (log entry 20). -/
def Obligations.PassSetAndCellBind : Prop := PassSetWrites ∧ CellBindWrites ∧ ByDefault .passSet false

/-- A zone definition as ZONE_SET sends it: 19 bytes. -/
def zonePayload (r : ZoneRecord) : List Byte :=
  [putBool r.enabled, r.passes.setWidth 8, put8 r.first.val, put8 r.last.val]
    ++ putOpt16 r.watch ++ putOpt16 r.alarm ++ putOpt16 r.limit ++ put16 r.hysteresis
    ++ [put8 r.persistence, put8 r.holdAllowance, put8 r.weight] ++ putOpt16 r.rateLimit
    ++ putOpt16 r.discrepancy

/-- The 19 bytes after the zone number ask for a zone definition; zone 0's enabled field, pass set and
stations are fixed, whatever the first four bytes hold (R104). -/
def ZoneAsked (z : ZoneNo) (fields : List Byte) (r : ZoneRecord) : Prop :=
  fields.length = 19 ∧ fields.drop 4 = (zonePayload r).drop 4
  ∧ if z = 0 then r.enabled = true ∧ r.passes = 15 ∧ r.first = 0 ∧ r.last = 31
    else fields.take 4 = (zonePayload r).take 4

/-- ZONE_SET writes a definition in its ranges as the zone's pending edit with a clear taken mark, zone 0
keeping its fixed fields, and the zone table stays; bytes that ask for no such definition are refused.
ZONE_GET then returns that edit as pending. -/
def Obligations.ZoneSetPendsAndGetReturns : Prop :=
  ∀ (s : State) (p : Port) (z : ZoneNo),
    (s.takes p .zoneSet →
      (∀ (fields : List Byte) (r : ZoneRecord), ZoneAsked z fields r → ZoneLaw z r →
        ∃ t : State, exec (.zoneSet p (put8 z.val :: fields)) s = .next (t.replied p .zoneSet .done [])
          ∧ t.map.latch.zoneEdits[z] = some ⟨r, false⟩
          ∧ (∀ y, y ≠ z → t.map.latch.zoneEdits[y] = s.map.latch.zoneEdits[y])
          ∧ t = { s with map := { s.map with latch := { s.map.latch with
              zoneEdits := t.map.latch.zoneEdits } } })
      ∧ (∀ fields : List Byte, fields.length = 19 → (∀ r, ZoneAsked z fields r → ¬ ZoneLaw z r) →
        exec (.zoneSet p (put8 z.val :: fields)) s = .next (s.refused p .zoneSet .range))
      ∧ (∀ pl : List Byte, pl.length ≠ 20 → exec (.zoneSet p pl) s = .next (s.refused p .zoneSet .format))
      ∧ ∀ (b : Byte) (fields : List Byte), fields.length = 19 → 8 ≤ b.toNat →
        exec (.zoneSet p (b :: fields)) s = .next (s.refused p .zoneSet .range))
    ∧ (s.takes p .zoneGet →
      (∀ e, s.map.latch.zoneEdits[z] = some e →
        exec (.zoneGet p [put8 z.val]) s =
          .next (s.replied p .zoneGet .done ([put8 z.val, 1] ++ zonePayload e.value)))
      ∧ (s.map.latch.zoneEdits[z] = none →
        exec (.zoneGet p [put8 z.val]) s =
          .next (s.replied p .zoneGet .done ([put8 z.val, 0] ++ zonePayload s.map.zones[z])))
      ∧ ∀ b : Byte, 8 ≤ b.toNat → exec (.zoneGet p [b]) s = .next (s.refused p .zoneGet .range))
    ∧ ByDefault .zoneSet false ∧ ByDefault .zoneGet true

/-- HOLD_PASS, RELEASE_PASS and CLEAR_PEAKS write their pending entries with a clear taken mark in every
operating state, replacing what the entries held; a pass or selection that is none is refused. -/
def Obligations.HoldsAndPeakClearsPend : Prop :=
  ∀ (s : State) (port : Port),
    (∀ hold : Bool,
      let k : RequestKind := if hold then .holdPass else .releasePass
      s.takes port k →
      (∀ p : PassNo,
        exec (k.command port [put8 p.val]) s = .next
          ({ s with map := { s.map with latch := { s.map.latch with
              holds := upd s.map.latch.holds p fun _ => some ⟨hold, false⟩ } } }.replied port k .done []))
      ∧ ∀ b : Byte, 4 ≤ b.toNat → exec (k.command port [b]) s = .next (s.refused port k .range))
    ∧ (s.takes port .clearPeaks →
      (∀ b : Byte, b.toNat ≤ 4 →
        ∃ t : State, exec (.clearPeaks port [b]) s = .next (t.replied port .clearPeaks .done [])
          ∧ (∀ p : PassNo, t.map.latch.peakClears[p] =
              if b = 4 ∨ b = put8 p.val then some ⟨(), false⟩ else s.map.latch.peakClears[p])
          ∧ t = { s with map := { s.map with latch := { s.map.latch with
              peakClears := t.map.latch.peakClears } } })
      ∧ ∀ b : Byte, 4 < b.toNat →
        exec (.clearPeaks port [b]) s = .next (s.refused port .clearPeaks .range))

/-- CELL_GET, MAP_READ and PASS_SUMMARY read the published map: their replies, and RANGE for an absent
cell, a station that is not published and a pass or selection that is none. -/
def Obligations.MapReads : Prop :=
  ∀ (s : State) (port : Port),
    let m := s.map.published
    (s.takes port .cellGet →
      (∀ i : CellIndex, isPresent s.map.passes i = true → m.isPresent i = true →
        exec (.cellGet port [put8 i.val]) s = .next (s.replied port .cellGet .done
          (bindingBytes i s.map.bindings[i] ++ cellStateBytes (cellFlagsByte m.cells[i].flags) m.cells[i])))
      ∧ (∀ i : CellIndex, isPresent s.map.passes i = true → m.isPresent i = false →
        exec (.cellGet port [put8 i.val]) s = .next (s.replied port .cellGet .done
          (bindingBytes i s.map.bindings[i] ++ cellStateBytes 0
            ⟨none, none, .void, .normal, ⟨false, false, false, false, false⟩, 0, 0, 0, 0, 0, none, false, none, 0,
              m.summaries[passOf i].scanNumber⟩)))
      ∧ ∀ b : Byte, (128 ≤ b.toNat ∨ ∃ i : CellIndex, b = put8 i.val ∧ isPresent s.map.passes i = false) →
        exec (.cellGet port [b]) s = .next (s.refused port .cellGet .range))
    ∧ (s.takes port .mapRead →
      (∀ (p : PassNo) (first count : Byte), first.toNat < m.summaries[p].stations →
        m.summaries[p].stations ≤ 32 →
        exec (.mapRead port [put8 p.val, first, count]) s = .next (s.replied port .mapRead .done
          (let n := min (min count.toNat 12) (m.summaries[p].stations - first.toNat)
           put32 m.summaries[p].scanNumber ++ [put8 p.val, first, put8 n]
            ++ (List.range n).flatMap fun j =>
                let c := m.cells.toList.getD (p.val * 32 + first.toNat + j) CellState.reset
                cellRecordBytes (first.toNat + j) (cellFlagsByte c.flags) c)))
      ∧ ∀ (b first count : Byte),
        (4 ≤ b.toNat ∨ ∃ p : PassNo, b = put8 p.val ∧ m.summaries[p].stations ≤ first.toNat) →
        exec (.mapRead port [b, first, count]) s = .next (s.refused port .mapRead .range))
    ∧ (s.takes port .passSummary →
      (∀ p : PassNo, exec (.passSummary port [put8 p.val]) s =
        .next (s.replied port .passSummary .done (summaryBytes p m.summaries[p])))
      ∧ exec (.passSummary port [4]) s = .next (s.replied port .passSummary .done
          ((List.finRange 4).flatMap fun p => summaryBytes p m.summaries[p]))
      ∧ ∀ b : Byte, 4 < b.toNat →
        exec (.passSummary port [b]) s = .next (s.refused port .passSummary .range))
    ∧ ByDefault .cellGet true ∧ ByDefault .mapRead true ∧ ByDefault .passSummary true

/-! ### The computation (chapters 5 and 6) -/

/-- An image at the intake: a READY engine starts on it, a free slot keeps it, and a full slot's image
gives way with a MAP_SKIPPED notice; it takes the intake's resume marker, or the discarded image's. -/
def ImageArrivalRule : Prop :=
  ∀ (s : State) (image : ScanImage),
    (s.map.computing = none →
      ∃ c, (s.imageArrives image).map.computing = some c ∧ c.source = ⟨image, s.map.resumeMarker⟩
        ∧ (s.imageArrives image).map.resumeMarker = false
        ∧ s.imageArrives image = { s with map := (s.imageArrives image).map }
        ∧ (s.imageArrives image).map =
            { s.map with resumeMarker := false }.startComputation ⟨image, s.map.resumeMarker⟩)
    ∧ (s.map.computing.isSome = true → s.map.waiting = none →
      s.imageArrives image =
        { s with map := { s.map with waiting := some ⟨image, s.map.resumeMarker⟩, resumeMarker := false } })
    ∧ ∀ old, s.map.computing.isSome = true → s.map.waiting = some old →
      ∃ t : State, s.imageArrives image = t
        ∧ t.map = { s.map with
            waiting := some ⟨image, s.map.resumeMarker || old.resume⟩, resumeMarker := false }
        ∧ Emitted [.notice ⟨.mapSkipped, some (old.image.number.toNat % 65536)⟩] s t
        ∧ t = { s.withFlow t.flow with map := t.map, draws := t.draws }

/-- An entry of the latch that is pending and not yet taken. -/
def Pends {α : Type} (e : Option (Entry α)) (a : α) : Prop := e = some ⟨a, false⟩

/-- An edit changes an edge or a limit of a zone's record (R107). -/
def ChangesLimits (old new : ZoneRecord) : Prop :=
  old.watch ≠ new.watch ∨ old.alarm ≠ new.alarm ∨ old.limit ≠ new.limit ∨ old.rateLimit ≠ new.rateLimit
  ∨ old.discrepancy ≠ new.discrepancy

/-- The control latch at a computation's start: it takes every pending entry whose taken mark is clear and
applies it. Zone edits go to the zone table; a hold entry that differs from the held field sets it, and its
HOLD_ON or HOLD_OFF record is formed; passes are released and marked for peak clearing; the resume marker
of the image sets every present cell's previous-valid-for-rate marker to no. -/
def ControlLatchApplies : Prop :=
  ∀ (m : MapEngine) (image : MarkedImage), ∃ (n : MapEngine) (c : Computation),
    m.startComputation image = n ∧ n.computing = some c ∧ c.source = image
    ∧ (∀ (z : ZoneNo) (edit : ZoneRecord), Pends m.latch.zoneEdits[z] edit →
        n.zones[z] = edit ∧ (c.limitsChanged[z] = true ↔ ChangesLimits m.zones[z] edit))
    ∧ (∀ z : ZoneNo, (∀ edit, ¬ Pends m.latch.zoneEdits[z] edit) →
        n.zones[z] = m.zones[z] ∧ c.limitsChanged[z] = false)
    ∧ (∀ (p : PassNo) (b : Bool), Pends m.latch.holds[p] b →
        n.passes[p] = { m.passes[p] with held := b }
        ∧ c.holdRecords[p] = (if b = m.passes[p].held then none else some b)
        ∧ (c.released[p] = true ↔ m.passes[p].held = true ∧ b = false))
    ∧ (∀ p : PassNo, (∀ b, ¬ Pends m.latch.holds[p] b) →
        n.passes[p] = m.passes[p] ∧ c.holdRecords[p] = none ∧ c.released[p] = false)
    ∧ (∀ p : PassNo, c.clearPeaks[p] = true ↔ Pends m.latch.peakClears[p] ())
    ∧ (∀ z : ZoneNo, n.latch.zoneEdits[z] = m.latch.zoneEdits[z].map fun e => ⟨e.value, true⟩)
    ∧ (∀ p : PassNo, n.latch.holds[p] = m.latch.holds[p].map fun e => ⟨e.value, true⟩)
    ∧ (∀ p : PassNo, n.latch.peakClears[p] = m.latch.peakClears[p].map fun e => ⟨e.value, true⟩)
    ∧ (image.resume = false → n.cells = m.cells)
    ∧ (image.resume = true → ∀ i : CellIndex, isPresent m.passes i = true →
        n.cells[i] = { m.cells[i] with prevValid := false })
    ∧ n = { m with
        zones := n.zones, passes := n.passes, cells := n.cells, latch := n.latch, computing := some c }

/-- An abandoned computation leaves no trace: from a READY engine with no taken mark and an empty slot,
a computation started and abandoned returns the engine to where it was. -/
def AbandonmentUndoesTheLatch : Prop :=
  ∀ (m : MapEngine) (image : MarkedImage), m.computing = none → m.waiting = none → m.resumeMarker = false →
    (∀ (z : ZoneNo) (e : Entry ZoneRecord), m.latch.zoneEdits[z] = some e → e.taken = false) →
    (∀ (p : PassNo) (e : Entry Bool), m.latch.holds[p] = some e → e.taken = false) →
    (∀ (p : PassNo) (e : Entry Unit), m.latch.peakClears[p] = some e → e.taken = false) →
    (m.startComputation image).abandon = m

/-- The intake of the Map Engine, the control latch, and the abandonment of a computation. -/
def Obligations.IntakeAndAbandonment : Prop :=
  ImageArrivalRule ∧ ControlLatchApplies ∧ AbandonmentUndoesTheLatch

/-- The Map Engine after a publication and before its intake step (R14, R81, R92, R93): the published map
is that of the computation, every present cell and all four summaries bearing the image's scan number; the
computed cells and the spread checks stand, and the taken entries of the latch are gone. -/
def MapPublished (m : MapEngine) (c : Computation) (n : MapEngine) : Prop :=
  n.computing = none ∧ n.zones = m.zones ∧ n.bindings = m.bindings ∧ n.resumeMarker = m.resumeMarker
  ∧ n.cells = computedCells m c
  ∧ (∀ i : CellIndex, isPresent m.passes i = true →
      n.published.cells[i] = n.cells[i] ∧ n.published.cells[i].scanNumber = c.source.image.number)
  ∧ (∀ p : PassNo,
      n.passes[p] = spreadCheck m.zones[(0 : ZoneNo)].persistence n.published.summaries[p].spread m.passes[p]
      ∧ n.published.summaries[p] = summaryOf m.passes n.cells c.source.image n.passes[p].spreadFlag p
      ∧ n.published.summaries[p].scanNumber = c.source.image.number
      ∧ n.published.summaries[p].timeTag = c.source.image.timeTag
      ∧ n.published.summaries[p].stations = m.passes[p].stations
      ∧ n.published.summaries[p].held = m.passes[p].held
      ∧ n.published.summaries[p].spreadFlag = n.passes[p].spreadFlag)
  ∧ (∀ (z : ZoneNo) (e : Entry ZoneRecord), n.latch.zoneEdits[z] = some e ↔
      m.latch.zoneEdits[z] = some e ∧ e.taken = false)
  ∧ (∀ (p : PassNo) (e : Entry Bool), n.latch.holds[p] = some e ↔
      m.latch.holds[p] = some e ∧ e.taken = false)
  ∧ ∀ (p : PassNo) (e : Entry Unit), n.latch.peakClears[p] = some e ↔
      m.latch.peakClears[p] = some e ∧ e.taken = false

/-- What a publication sends beside its frames (R95, R97, R135): the computation's records to the Excursion
Log, and its notices and those of the frames' taking to the Notice Unit. -/
def publicationSends (s : State) (c : Computation) : List Sent :=
  (publicationRecords s.map c).map .record
    ++ (publicationNotices s.map c ++ (s.trend.takeAll (publicationFrames s.map c)).2).map .notice

/-- PUBLICATION replaces the published map whole and drops the taken entries of the latch; the Trend Store
takes the frames; the records and notices are in transit, each stream in its order, and any of them, with
what was in transit before, may have arrived when it answers (log entries 5 and 6); a computation then
starts on the waiting image, if there is one. -/
def Obligations.PublicationReplacesTheMap : Prop :=
  ∀ (s : State) (c : Computation), s.operating = true → s.map.computing = some c →
    ∃ (t : State) (m : MapEngine), exec .publication s = .next t
      ∧ MapPublished s.map c m
      ∧ (s.map.waiting = none → t.map = { m with waiting := none })
      ∧ (∀ next, s.map.waiting = some next → t.map = { m with waiting := none }.startComputation next)
      ∧ t.trend = (s.trend.takeAll (publicationFrames s.map c)).1
      ∧ Emits s.op.timeTag [] { s.flow with transit := s.transit ++ publicationSends s c } t.flow
      ∧ t = { s.withFlow t.flow with map := t.map, trend := t.trend, draws := t.draws }

/-- The place of a record in the order of R95, records of one cell ordered by their group: 256 places for
each pass, its hold record first, its spread record last. -/
def recordRank (r : RecordBody) : Nat :=
  match r.subject with
  | .pass p => p.val * 256 + (if r.kind = .holdOn ∨ r.kind = .holdOff then 0 else 255)
  | .cell i =>
    (passOf i).val * 256 + 1 + (stationOf i).val * 4
      + (match r.kind with
        | .sourceLost | .sourceBack => 0
        | .bandRise | .bandFall => 1
        | .rateOn | .rateOff => 2
        | _ => 3)
  | _ => 1024

/-- The place of a notice in the order of R97: 256 places for each pass, SPREAD_HIGH and PASS_CLOSED last. -/
def noticeRank (n : Notice) : Nat :=
  let number := n.parameter.getD 0
  match n.kind with
  | .alarmEntered | .limitEntered => number / 32 * 256 + number % 32 * 3
  | .rateHigh => number / 32 * 256 + number % 32 * 3 + 1
  | .disagree => number / 32 * 256 + number % 32 * 3 + 2
  | .spreadHigh => number * 256 + 254
  | .passClosed => number * 256 + 255
  | _ => 1024

/-- The notice formed with a record (R114, R119, R121, R123). -/
def formedWith (r : RecordBody) : Option Notice :=
  match r.subject, r.kind with
  | .cell i, .bandRise =>
    if r.bandAfter = some .alarm then some ⟨.alarmEntered, some i.val⟩
    else if r.bandAfter = some .limit then some ⟨.limitEntered, some i.val⟩
    else none
  | .cell i, .rateOn => some ⟨.rateHigh, some i.val⟩
  | .cell i, .disagreeOn => some ⟨.disagree, some i.val⟩
  | .pass p, .spreadOn => some ⟨.spreadHigh, some p.val⟩
  | _, _ => none

/-- A channel's reading is usable for a cell (R64, R83), with its value. -/
def UsableFor (readings : Vector Reading 96) (channel : Option ChannelNo) (r : Reading) (v : Int) : Prop :=
  ∃ n : ChannelNo, channel = some n ∧ readings[n] = r ∧ r.usable = true ∧ r.value = some v

/-- The record of a kind about a cell, with the governing zone and the quality that its computation leaves it
(R95, R142). -/
def aboutCell (c : Computation) (i : CellIndex) (after : CellState) (kind : RecordKind) (value : Option Int)
    (bands : Option (Band × Band)) : RecordBody :=
  ⟨kind, c.source.image.timeTag, c.source.image.number, .cell i, none, value, bands.map Prod.fst,
    bands.map Prod.snd, some after.zone, some after.quality⟩

/-- The record of a kind about a pass, without band, zone or quality (R95, R124, R142). -/
def aboutPass (c : Computation) (p : PassNo) (kind : RecordKind) (station : Option Station)
    (value : Option Int) : RecordBody :=
  ⟨kind, c.source.image.timeTag, c.source.image.number, .pass p, station, value, none, none, none, none⟩

/-- The source record of a cell (R96): a bound cell computed before in this run crosses out of GOOD or into
it; the record carries the resolved value, absent for a VOID cell. -/
def SourceRecordFormed (m : MapEngine) (c : Computation) (i : CellIndex) (r : RecordBody) : Prop :=
  let before := m.cells[i]
  let after := (computedCells m c)[i]
  m.bindings[i].primary.isSome = true ∧ before.scanNumber ≠ 0
  ∧ (after.quality = .void → after.resolved = none)
  ∧ ((before.quality = .good ∧ after.quality ≠ .good ∧ r = aboutCell c i after .sourceLost after.resolved none)
    ∨ (before.quality ≠ .good ∧ after.quality = .good ∧ r = aboutCell c i after .sourceBack after.resolved none))

/-- The band record of a cell (R114): its band moves among NORMAL, WATCH, ALARM and LIMIT, from NORMAL where
its pass is released (R117); the record carries the filtered value, absent for a VOID cell, and both bands. -/
def BandRecordFormed (m : MapEngine) (c : Computation) (i : CellIndex) (r : RecordBody) : Prop :=
  let before := if c.released[passOf i] = true then .normal else m.cells[i].band
  let after := (computedCells m c)[i]
  before ≠ .held ∧ after.band ≠ .held
  ∧ (after.quality = .void → after.filtered = none)
  ∧ ((bandRank before < bandRank after.band
      ∧ r = aboutCell c i after .bandRise after.filtered (some (before, after.band)))
    ∨ (bandRank after.band < bandRank before
      ∧ r = aboutCell c i after .bandFall after.filtered (some (before, after.band))))

/-- The rate check of a cell runs, on this rate and limit (R119): the cell is GOOD with a valid previous value,
and its zone has a rate limit. `before` and `after` are the cell before and after the computation. -/
def RateChecked (m : MapEngine) (c : Computation) (before after : CellState) (rate limit : Int) : Prop :=
  after.quality = .good ∧ before.prevValid = true ∧ m.zones[after.zone].rateLimit = some limit
  ∧ ∃ f p, after.filtered = some f ∧ after.prevFiltered = some p
    ∧ rate = roundDiv ((f - p) * 60) c.source.image.interval

/-- The disagreement check of a cell runs, on this difference and limit (R121): the cell is not VOID, both of
its readings are usable, and its zone has a discrepancy limit. -/
def DisagreementChecked (m : MapEngine) (c : Computation) (b : Binding) (after : CellState)
    (difference limit : Int) : Prop :=
  after.quality ≠ .void ∧ m.zones[after.zone].discrepancy = some limit
  ∧ ∃ q v u w, UsableFor c.source.image.readings b.primary q v
    ∧ UsableFor c.source.image.readings b.secondary u w ∧ difference = ((v - w).natAbs : Int)

/-- The rate record of a cell (R119, R120, R113): in a pass not held the RATE flag is set, by a check of a
GOOD cell with a valid previous value that found the rate above its zone's limit, or is cleared, by one that
did not, or because the cell is VOID. The record carries the rate limited to 16 bits without the absent
value, and none for a VOID cell. A release starts from a clear flag (R117). -/
def RateRecordFormed (m : MapEngine) (c : Computation) (i : CellIndex) (r : RecordBody) : Prop :=
  let flagBefore := m.cells[i].flags.rate && !c.released[passOf i]
  let after := (computedCells m c)[i]
  let carried (rate : Int) : Int := max (-32767) (min 32767 rate)
  m.passes[passOf i].held = false
  ∧ ((flagBefore = false ∧ after.flags.rate = true
      ∧ ∃ rate limit, RateChecked m c m.cells[i] after rate limit ∧ limit < rate
        ∧ r = aboutCell c i after .rateOn (some (carried rate)) none)
    ∨ (flagBefore = true ∧ after.flags.rate = false
      ∧ ((after.quality = .void ∧ r = aboutCell c i after .rateOff none none)
        ∨ ∃ rate limit, RateChecked m c m.cells[i] after rate limit ∧ rate ≤ limit
          ∧ r = aboutCell c i after .rateOff (some (carried rate)) none)))

/-- The disagreement record of a cell (R121, R122, R113): in a pass not held the DISAGREE flag is set, by a
check of two usable readings that found their difference above its zone's limit, or is cleared, by one that
did not, or because the cell is VOID. The record carries the difference, and none for a VOID cell. -/
def DisagreeRecordFormed (m : MapEngine) (c : Computation) (i : CellIndex) (r : RecordBody) : Prop :=
  let flagBefore := m.cells[i].flags.disagree && !c.released[passOf i]
  let after := (computedCells m c)[i]
  m.passes[passOf i].held = false
  ∧ ((flagBefore = false ∧ after.flags.disagree = true
      ∧ ∃ difference limit, DisagreementChecked m c m.bindings[i] after difference limit
        ∧ limit < difference ∧ r = aboutCell c i after .disagreeOn (some difference) none)
    ∨ (flagBefore = true ∧ after.flags.disagree = false
      ∧ ((after.quality = .void ∧ r = aboutCell c i after .disagreeOff none none)
        ∨ ∃ difference limit, DisagreementChecked m c m.bindings[i] after difference limit
          ∧ difference ≤ limit ∧ r = aboutCell c i after .disagreeOff (some difference) none)))

/-- Which records a publication holds about a cell, and what each carries: just those of its four groups, of
a present cell with log enable yes (R98), at a computation past its latch as the map's law has it. -/
def CellRecordsFormed : Prop :=
  ∀ (m : MapEngine) (c : Computation) (i : CellIndex) (r : RecordBody), LatchedLaw m c →
    r.subject = .cell i →
    (r ∈ publicationRecords m c ↔
      isPresent m.passes i = true ∧ m.bindings[i].logEnable = true
      ∧ (SourceRecordFormed m c i r ∨ BandRecordFormed m c i r ∨ RateRecordFormed m c i r
        ∨ DisagreeRecordFormed m c i r))

/-- Which records a publication holds about a pass: its HOLD_ON or HOLD_OFF, where the latch formed one
(R81), and its SPREAD_ON or SPREAD_OFF, where the spread check, with the persistence of zone 0, sets or clears
the SPREAD flag, with the hottest station and the spread of its summary (R123, R124). -/
def PassRecordsFormed : Prop :=
  ∀ (m : MapEngine) (c : Computation) (p : PassNo) (r : RecordBody), r.subject = .pass p →
    let pass := m.passes[p]
    let summary := (m.completed c).published.summaries[p]
    let checked (limit spread : Int) : Prop := pass.held = false ∧ pass.spreadLimit = some limit
      ∧ summary.spread = some spread
    (r ∈ publicationRecords m c ↔
      (c.holdRecords[p] = some true ∧ r = aboutPass c p .holdOn none none)
      ∨ (c.holdRecords[p] = some false ∧ r = aboutPass c p .holdOff none none)
      ∨ (∃ limit spread, checked limit spread ∧ pass.spreadFlag = false ∧ limit < spread
          ∧ m.zones[(0 : ZoneNo)].persistence ≤ pass.spreadCount + 1
          ∧ r = aboutPass c p .spreadOn summary.hottestStation (some spread))
      ∨ ∃ limit spread, checked limit spread ∧ pass.spreadFlag = true ∧ spread ≤ limit
          ∧ r = aboutPass c p .spreadOff summary.hottestStation (some spread))

/-- A publication's streams: the records in the strict order of R95 and the notices in that of R97, pass by
pass, within a pass by station, and within a cell by group; each record and frame stamped with the image's
scan number and time tag; one PASS_CLOSED for each pass, and just the other notices that go with a record;
four frames in ascending pass order, each with the entries of its present stations in ascending order. -/
def StreamsStandInOrder : Prop :=
  ∀ (m : MapEngine) (c : Computation),
    (publicationRecords m c).Pairwise (fun a b => recordRank a < recordRank b)
    ∧ (∀ r ∈ publicationRecords m c, recordRank r < 1024
        ∧ r.scanNumber = c.source.image.number ∧ r.timeTag = c.source.image.timeTag)
    ∧ (publicationNotices m c).Pairwise (fun a b => noticeRank a < noticeRank b)
    ∧ (publicationNotices m c).filter (fun n => n.kind == .passClosed) =
        (List.range 4).map (fun p => ⟨.passClosed, some p⟩)
    ∧ (∀ n : Notice, n.kind ≠ .passClosed →
        (n ∈ publicationNotices m c ↔ ∃ r ∈ publicationRecords m c, formedWith r = some n))
    ∧ (publicationFrames m c).map Frame.pass = [0, 1, 2, 3]
    ∧ ∀ f ∈ publicationFrames m c,
        f.summary.scanNumber = c.source.image.number ∧ f.summary.timeTag = c.source.image.timeTag
        ∧ f.summary.held = m.passes[f.pass].held
        ∧ (m.passes[f.pass].stations ≤ 32 → f.entries.length = m.passes[f.pass].stations)
        ∧ ∀ t : Station, t.val < m.passes[f.pass].stations →
            f.entries[t.val]? = some (stationEntry (computedCells m c)[cellAt f.pass t])

/-- What a publication sends: the order and stamps of its streams, and just which records it forms about
cells and passes, with what each carries. -/
def Obligations.PublicationStreams : Prop := StreamsStandInOrder ∧ CellRecordsFormed ∧ PassRecordsFormed

/-- An estimate lies between its two anchors, a mean between its two values, and a filtered value between
the value before it and the new one. -/
def EstimatesMeansAndFilterStayBetween : Prop :=
  (∀ (i s j vi vj v : Int), i < s → s < j → estimate s (some (i, vi)) (some (j, vj)) = some v →
    min vi vj ≤ v ∧ v ≤ max vi vj)
  ∧ (∀ (a b : Int), min a b ≤ roundDiv (a + b) 2 ∧ roundDiv (a + b) 2 ≤ max a b)
  ∧ ∀ (weight : Nat) (old new f : Int), 1 ≤ weight → weight ≤ 16 →
      filterValue false weight (some old) (some new) = some f →
      min old new ≤ f ∧ f ≤ max old new ∧ (weight = 16 → f = new)

/-- Stage 2: the governing zone is the highest-numbered enabled zone covering the cell, zone 0 covering all;
the three counters are cleared where it is another than before or has had an edge or limit changed. -/
def GoverningZoneStage : Prop :=
  ∀ (zones : Vector ZoneRecord 8) (limitsChanged : Vector Bool 8) (i : CellIndex) (c : CellState),
    let d := applyZone zones limitsChanged i c
    let Covers (z : ZoneNo) : Prop := z = 0 ∨
      (zones[z].enabled = true ∧ zones[z].passes.getLsbD (passOf i).val = true
        ∧ zones[z].first ≤ stationOf i ∧ stationOf i ≤ zones[z].last)
    Covers d.zone ∧ (∀ z, Covers z → z ≤ d.zone)
    ∧ ((d.zone ≠ c.zone ∨ limitsChanged[d.zone] = true) →
        d = { c with zone := d.zone, riseCount := 0, rateCount := 0, disagreeCount := 0 })
    ∧ (d.zone = c.zone → limitsChanged[d.zone] = false → d = c)

/-- Stage 3: a cell takes its source by its combine mode and becomes GOOD; one without a source is HELD
within the hold allowance of its governing zone, and otherwise passes on as a cell that is not counted, its
hold count as it was. -/
def SourceStage : Prop :=
  ∀ (allowance : Nat) (b : Binding) (readings : Vector Reading 96) (c : CellState),
    let d := resolveCell allowance b readings c
    let primary := UsableFor readings b.primary
    let secondary := UsableFor readings b.secondary
    let rests (v : Int) (clamped cjHeld secondaryUsed : Bool) : Prop := d =
      { c with
        quality := .good, resolved := some v, holdCount := 0
        flags := { c.flags with clamped := clamped, cjHeld := cjHeld, secondaryUsed := secondaryUsed } }
    (∀ r v, primary r v → (∀ q w, ¬ secondary q w) → rests v r.clamped r.cjHeld false)
    ∧ (∀ q w, (∀ r v, ¬ primary r v) → secondary q w → rests w q.clamped q.cjHeld true)
    ∧ (∀ r v q w, primary r v → secondary q w →
        match b.combine with
        | .primary => rests v r.clamped r.cjHeld false
        | .mean => rests (roundDiv (v + w) 2) (r.clamped || q.clamped) (r.cjHeld || q.cjHeld) false
        | .higher => if w ≤ v then rests v r.clamped r.cjHeld false else rests w q.clamped q.cjHeld false)
    ∧ ((∀ r v, ¬ primary r v) → (∀ q w, ¬ secondary q w) →
        let holds := b.primary.isSome = true ∧ (c.quality = .good ∨ c.quality = .held)
          ∧ c.holdCount < allowance
        (holds → d = { c with quality := .held, holdCount := c.holdCount + 1 })
        ∧ (¬ holds → d.counted = false ∧ d = { c with quality := d.quality }))

/-- The station of a pass is an anchor after stage 3, with its value (R86). -/
def AnchorAt (passes : Vector PassEntry 4) (cells : Vector CellState 128) (p : PassNo) (t : Station)
    (v : Int) : Prop :=
  isPresent passes (cellAt p t) = true
  ∧ (cells[cellAt p t].quality = .good ∨ cells[cellAt p t].quality = .held)
  ∧ cells[cellAt p t].resolved = some v

/-- The nearest anchor below a station. -/
def NearestBelow (passes : Vector PassEntry 4) (cells : Vector CellState 128) (p : PassNo) (s t : Station)
    (v : Int) : Prop :=
  AnchorAt passes cells p t v ∧ t < s ∧ ∀ x w, AnchorAt passes cells p x w → x < s → x ≤ t

/-- The nearest anchor above a station. -/
def NearestAbove (passes : Vector PassEntry 4) (cells : Vector CellState 128) (p : PassNo) (s t : Station)
    (v : Int) : Prop :=
  AnchorAt passes cells p t v ∧ s < t ∧ ∀ x w, AnchorAt passes cells p x w → s < x → t ≤ x

/-- Stage 4: a counted cell is left as it is; any other is estimated from the nearest anchors of its pass,
between the two, or as the one where all lie on one side, and is VOID without a value where there is none. -/
def EstimationStage : Prop :=
  ∀ (passes : Vector PassEntry 4) (cells : Vector CellState 128) (i : CellIndex) (c : CellState),
    let d := estimateCell passes cells i c
    let p := passOf i
    let s := stationOf i
    let becomes (q : Quality) (v : Option Int) : Prop := d =
      { c with
        quality := q, resolved := v
        flags := { c.flags with clamped := false, cjHeld := false, secondaryUsed := false } }
    (c.counted = true → d = c)
    ∧ (c.counted = false →
      (∀ x v y w, NearestBelow passes cells p s x v → NearestAbove passes cells p s y w →
        becomes .estimated (some (v + roundDiv ((w - v) * (s.val - x.val)) (y.val - x.val))))
      ∧ (∀ x v, NearestBelow passes cells p s x v → (∀ y w, AnchorAt passes cells p y w → y ≤ s) →
          becomes .estimated (some v))
      ∧ (∀ y w, NearestAbove passes cells p s y w → (∀ x v, AnchorAt passes cells p x v → s ≤ x) →
          becomes .estimated (some w))
      ∧ ((∀ x v, AnchorAt passes cells p x v → x = s) → becomes .void none))

/-- Stages 5 and 6: the filtered value is the new resolved value for a cell without a previous one or in a
released pass, and otherwise the old one moved by the weight; the peak follows a counted cell's filtered
value upward, and is set from it, or removed, where the pass is marked for peak clearing. -/
def FilterAndPeakStages : Prop :=
  ∀ (x : CellState) (released clear : Bool) (weight : Nat) (timeTag : Word32),
    let y := filterCell released weight x
    let k := peakCell clear timeTag x
    y = { x with prevFiltered := x.filtered, filtered := y.filtered }
    ∧ (x.resolved = none → y.filtered = none)
    ∧ (∀ new, x.resolved = some new → (released = true ∨ x.filtered = none) → y.filtered = some new)
    ∧ (∀ new old, x.resolved = some new → released = false → x.filtered = some old →
        y.filtered = some (old + roundDiv ((new - old) * weight) 16))
    ∧ (clear = true → x.counted = true → k = { x with peak := x.filtered, peakTag := timeTag })
    ∧ (clear = true → x.counted = false → k = { x with peak := none, peakTag := 0 })
    ∧ (clear = false → x.counted = false → k = x)
    ∧ ∀ f, clear = false → x.counted = true → x.filtered = some f →
        (x.peak = none → k = { x with peak := some f, peakTag := timeTag })
        ∧ ∀ p, x.peak = some p →
          k = if p < f then { x with peak := some f, peakTag := timeTag } else x

/-- The stages one after another on every present cell, each on what the one before left in all cells. -/
def StagesFollowOneAnother : Prop :=
  ∀ (m : MapEngine) (c : Computation) (i : CellIndex) (zoned resolved x : CellState),
    isPresent m.passes i = true → applyZone m.zones c.limitsChanged i m.cells[i] = zoned →
    resolveCell m.zones[zoned.zone].holdAllowance m.bindings[i] c.source.image.readings zoned = resolved →
    estimateCell m.passes (stage3 m c) i resolved = x →
    (stage3 m c)[i] = resolved
    ∧ (computedCells m c)[i] =
      { classifyCell m.passes[passOf i].held c.released[passOf i] m.zones[x.zone] m.bindings[i] c.source.image
          (peakCell c.clearPeaks[passOf i] c.source.image.timeTag
            (filterCell c.released[passOf i] m.zones[x.zone].weight x)) with
        scanNumber := c.source.image.number }

/-- A station of a pass with a counted cell, and the cell's filtered value (R12). -/
def CountedAt (passes : Vector PassEntry 4) (cells : Vector CellState 128) (p : PassNo) (t : Station)
    (f : Int) : Prop :=
  isPresent passes (cellAt p t) = true
  ∧ (cells[cellAt p t].quality = .good ∨ cells[cellAt p t].quality = .held)
  ∧ cells[cellAt p t].filtered = some f

/-- The statistics of a pass summary (R12): the first of the hottest and of the coolest counted cells, the
rounded mean, the spread, all absent without a counted cell, and the numbers of each quality. -/
def SummaryStatistics : Prop :=
  ∀ (passes : Vector PassEntry 4) (cells : Vector CellState 128) (image : ScanImage) (flag : Bool)
    (p : PassNo),
    let x := summaryOf passes cells image flag p
    let counted := CountedAt passes cells p
    let number (q : Quality) := (List.finRange 32).countP fun t =>
      isPresent passes (cellAt p t) && cells[cellAt p t].quality == q
    ((∀ t f, ¬ counted t f) →
      x.hottestStation = none ∧ x.hottestValue = none ∧ x.coolestStation = none ∧ x.coolestValue = none
      ∧ x.mean = none ∧ x.spread = none)
    ∧ ((∃ t f, counted t f) →
      ∃ (h l : Station) (hv lv mean : Int) (values : List Int),
        x.hottestStation = some h ∧ x.hottestValue = some hv ∧ counted h hv
        ∧ (∀ t f, counted t f → f ≤ hv ∧ (f = hv → h ≤ t))
        ∧ x.coolestStation = some l ∧ x.coolestValue = some lv ∧ counted l lv
        ∧ (∀ t f, counted t f → lv ≤ f ∧ (f = lv → l ≤ t))
        ∧ values = (List.finRange 32).filterMap (fun t =>
            if isPresent passes (cellAt p t) = true
                ∧ (cells[cellAt p t].quality = .good ∨ cells[cellAt p t].quality = .held) then
              cells[cellAt p t].filtered
            else none)
        ∧ x.mean = some mean ∧ mean = roundDiv values.sum values.length ∧ x.spread = some (hv - mean))
    ∧ x.goodCount = number .good ∧ x.heldCount = number .held ∧ x.estimatedCount = number .estimated
    ∧ x.voidCount = number .void
    ∧ (passes[p].stations ≤ 32 →
        x.goodCount + x.heldCount + x.estimatedCount + x.voidCount = passes[p].stations)

/-- The rounding rule and what is computed by it, stages 2 to 6 and the statistics of stage 8. -/
def Obligations.RoundingAndMeans : Prop :=
  RoundingIsToNearestHalfUp ∧ EstimatesMeansAndFilterStayBetween ∧ GoverningZoneStage ∧ SourceStage
  ∧ EstimationStage ∧ FilterAndPeakStages ∧ StagesFollowOneAnother ∧ SummaryStatistics

/-- A cell rises only at the P-th computation in a row at which its candidate lies above its band, and then
to the candidate of that computation. -/
def RiseTakesPersistence : Prop :=
  ∀ (z : ZoneRecord) (b : Band) (fs : List Int), b ≠ .held → 1 ≤ z.persistence →
    (∀ f ∈ fs, bandRank b < bandRank (candidateBand z f)) →
    let run := fs.foldl (fun st f => riseOrFall z f st.1 st.2) (b, 0)
    (fs.length < z.persistence → run = (b, fs.length))
    ∧ ∀ gs f, fs = gs ++ [f] → fs.length = z.persistence → run = (candidateBand z f, 0)

/-- A cell falls at once, without persistence, to the highest band below that its value still holds by the
hysteresis, and keeps its band while the value is not below the band's edge less the hysteresis. -/
def FallIsAtOnceWithHysteresis : Prop :=
  ∀ (z : ZoneRecord) (b : Band) (rise : Nat) (f : Int), b ≠ .held →
    bandRank (candidateBand z f) ≤ bandRank b →
    let edgeOf : Band → Option Int
      | .watch => z.watch
      | .alarm => z.alarm
      | .limit => z.limit
      | _ => none
    let holds (x : Band) : Prop := x = .normal ∨ ∃ e, edgeOf x = some e ∧ e - z.hysteresis ≤ f
    let after := riseOrFall z f b rise
    after.2 = 0 ∧ after.1 ≠ .held ∧ bandRank after.1 ≤ bandRank b ∧ holds after.1
    ∧ ∀ x, x ≠ .held → bandRank x ≤ bandRank b → holds x → bandRank x ≤ bandRank after.1

/-- The candidate band: the highest band whose edge is present and not above the value. -/
def CandidateIsTheHighestReached : Prop :=
  ∀ (z : ZoneRecord) (f : Int),
    let reached (edge : Option Int) : Prop := ∃ e, edge = some e ∧ e ≤ f
    (candidateBand z f = .limit ↔ reached z.limit)
    ∧ (candidateBand z f = .alarm ↔ reached z.alarm ∧ ¬ reached z.limit)
    ∧ (candidateBand z f = .watch ↔ reached z.watch ∧ ¬ reached z.alarm ∧ ¬ reached z.limit)
    ∧ (candidateBand z f = .normal ↔ ¬ reached z.watch ∧ ¬ reached z.alarm ∧ ¬ reached z.limit)

/-- The table of the rate, disagreement and spread checks (R119, R121, R123): the counter and the flag after
a check that has found the quantity above its limit or not. -/
def CheckTable (persistence : Nat) (above : Prop) (count : Nat) (flag : Bool) (count' : Nat)
    (flag' : Bool) : Prop :=
  (flag = false → above → count' = count + 1 ∧ (flag' = true ↔ persistence ≤ count + 1))
  ∧ (flag = false → ¬ above → count' = 0 ∧ flag' = false)
  ∧ (flag = true → above → count' = count ∧ flag' = true)
  ∧ (flag = true → ¬ above → count' = 0 ∧ flag' = false)

/-- Stage 7 of a cell that is not VOID, in a pass not held and not released: the band moves by the rise or
the fall and is capped at WATCH for an ESTIMATED cell; the rate check runs for a GOOD cell with a valid
previous value and a limit, and otherwise sets its counter to 0; the disagreement check runs where both
readings are usable and a limit is present, and otherwise keeps counter and flag. -/
def ClassificationStage : Prop :=
  ∀ (z : ZoneRecord) (b : Binding) (image : ScanImage) (c : CellState) (f : Int), c.quality ≠ .void →
    c.filtered = some f →
    let d := classifyCell false false z b image c
    let moved := riseOrFall z f c.band c.riseCount
    d.riseCount = moved.2
    ∧ ((c.quality = .estimated ∧ (moved.1 = .alarm ∨ moved.1 = .limit)) → d.band = .watch)
    ∧ (¬ (c.quality = .estimated ∧ (moved.1 = .alarm ∨ moved.1 = .limit)) → d.band = moved.1)
    ∧ (∀ limit p, c.quality = .good → c.prevValid = true → z.rateLimit = some limit →
        c.prevFiltered = some p →
        CheckTable z.persistence (limit < roundDiv ((f - p) * 60) image.interval) c.rateCount c.flags.rate
          d.rateCount d.flags.rate)
    ∧ ((c.quality ≠ .good ∨ c.prevValid = false ∨ z.rateLimit = none) →
        d.rateCount = 0 ∧ d.flags.rate = c.flags.rate)
    ∧ (∀ limit r v q w, z.discrepancy = some limit → UsableFor image.readings b.primary r v →
        UsableFor image.readings b.secondary q w →
        CheckTable z.persistence (limit < ((v - w).natAbs : Int)) c.disagreeCount c.flags.disagree
          d.disagreeCount d.flags.disagree)
    ∧ ((z.discrepancy = none ∨ (∀ r v, ¬ UsableFor image.readings b.primary r v)
          ∨ ∀ q w, ¬ UsableFor image.readings b.secondary q w) →
        d.disagreeCount = c.disagreeCount ∧ d.flags.disagree = c.flags.disagree)
    ∧ (d.prevValid = true ↔ c.quality = .good)
    ∧ d = { c with
        band := d.band, riseCount := d.riseCount, rateCount := d.rateCount
        disagreeCount := d.disagreeCount, prevValid := d.prevValid
        flags := { c.flags with rate := d.flags.rate, disagree := d.flags.disagree } }

/-- A cell with a band, its three counters at 0 and its RATE and DISAGREE flags clear. -/
def ChecksCleared (b : Band) (valid : Bool) (c : CellState) : CellState :=
  { c with
    band := b, riseCount := 0, rateCount := 0, disagreeCount := 0, prevValid := valid
    flags := { c.flags with rate := false, disagree := false } }

/-- Stage 7 of the other cells: in a held pass HELD, VOID in any other pass NORMAL, both with cleared
checks; and in a released pass as from NORMAL with cleared checks. -/
def HeldVoidAndReleasedCells : Prop :=
  ∀ (z : ZoneRecord) (b : Binding) (image : ScanImage) (c : CellState) (released : Bool),
    classifyCell true released z b image c = ChecksCleared .held false c
    ∧ (c.quality = .void → classifyCell false released z b image c = ChecksCleared .normal false c)
    ∧ (c.quality ≠ .void → classifyCell false true z b image c =
        classifyCell false false z b image (ChecksCleared .normal c.prevValid c))

/-- The spread check of a pass: it runs for a pass not held, with a limit and a spread. -/
def SpreadCheckStage : Prop :=
  ∀ (persistence : Nat) (spread : Option Int) (e : PassEntry),
    let d := spreadCheck persistence spread e
    (e.held = true → d.spreadCount = 0 ∧ d.spreadFlag = false)
    ∧ (e.held = false → e.spreadLimit = none → d.spreadFlag = false)
    ∧ (e.held = false → e.spreadLimit.isSome = true → spread = none →
        d.spreadCount = 0 ∧ d.spreadFlag = e.spreadFlag)
    ∧ (∀ limit x, e.held = false → e.spreadLimit = some limit → spread = some x →
        CheckTable persistence (limit < x) e.spreadCount e.spreadFlag d.spreadCount d.spreadFlag)
    ∧ d = { e with spreadCount := d.spreadCount, spreadFlag := d.spreadFlag }

/-- A cell whose log enable is no forms no records (its notices go with records, PublicationStreams). -/
def LogEnableSuppresses : Prop :=
  ∀ (m : MapEngine) (c : Computation) (r : RecordBody) (i : CellIndex), r ∈ publicationRecords m c →
    r.subject = .cell i → isPresent m.passes i = true ∧ m.bindings[i].logEnable = true

/-- The movement of a band, the checks of stages 7 and 8, and the log enable. -/
def Obligations.BandsRiseAndFall : Prop :=
  RiseTakesPersistence ∧ FallIsAtOnceWithHysteresis ∧ CandidateIsTheHighestReached ∧ ClassificationStage
  ∧ HeldVoidAndReleasedCells ∧ SpreadCheckStage ∧ LogEnableSuppresses

/-! ### Trends, log and notices (chapters 7 to 9) -/

/-- The bytes of a TREND_SET after the pass (mode, base slot, ring size, valid-only) that ask for a
configuration; a field that the mode does not check may hold anything (R127). -/
def TrendAsked (mode base ring valid : Byte) : TrendConfig → Prop
  | .off => mode = 0
  | .snapshot b => mode = 1 ∧ base = put8 b.val
  | .paired b => mode = 2 ∧ base = put8 b.val
  | .ring b size v => mode = 3 ∧ base = put8 b.val ∧ ring = put8 (ringSlots size) ∧ valid = putBool v

/-- TREND_SET in STOPPED writes a pass's allocation where it fits the pool and shares no slot with another
pass, and empties its old and new slots; otherwise RANGE or CONFLICT, outside STOPPED STATE. -/
def Obligations.TrendSetAllocates : Prop :=
  ∀ (s : State) (port : Port) (b mode base ring valid : Byte), s.takes port .trendSet →
    let request : Instr := .trendSet port [b, mode, base, ring, valid]
    (s.op.state ≠ .stopped → exec request s = .next (s.refused port .trendSet .state))
    ∧ (s.op.state = .stopped →
        (4 ≤ b.toNat ∨ 4 ≤ mode.toNat
          ∨ (mode = 3 ∧ (ring.toNat ∉ [8, 16, 32, 64, 128] ∨ 1 < valid.toNat))) →
        exec request s = .next (s.refused port .trendSet .range))
    ∧ ∀ (p : PassNo) (c : TrendConfig), b = put8 p.val → TrendAsked mode base ring valid c →
      s.op.state = .stopped →
      let fits := (∀ n, inAllocation c n = true → n < 256)
        ∧ ∀ (q : PassNo) (n : Nat), q ≠ p → inAllocation c n = true →
            inAllocation s.trend.passes[q].config n = false
      (¬ fits → exec request s = .next (s.refused port .trendSet .conflict))
      ∧ (fits → ∃ t : State, exec request s = .next (t.replied port .trendSet .done [])
          ∧ t.trend.passes = upd s.trend.passes p (fun _ => ⟨c, 0, 0, .first, 0⟩)
          ∧ (∀ n : Fin 256, t.trend.pool[n] =
              if inAllocation c n.val = true ∨ inAllocation s.trend.passes[p].config n.val = true then none
              else s.trend.pool[n])
          ∧ t = { s with trend := t.trend })

/-- TREND_READ answers with the frame of the asked age, header and a run of station entries, and is refused
with RANGE for a pass that is none, an age not stored and a station the frame does not have. -/
def Obligations.TrendReadReturnsStoredFrame : Prop :=
  ∀ (s : State) (port : Port) (b age first count : Byte), s.takes port .trendRead →
    (∀ (p : PassNo) (f : Frame), b = put8 p.val → s.trend.frameOfAge p age.toNat = some f →
      first.toNat < f.summary.stations →
      exec (.trendRead port [b, age, first, count]) s = .next (s.replied port .trendRead .done
        (trendReadBytes s.trend.passes[p] f p age.toNat first.toNat
          (min count.toNat (f.summary.stations - first.toNat)))))
    ∧ ((4 ≤ b.toNat
        ∨ (∃ p : PassNo, b = put8 p.val ∧ storedFrames s.trend.passes[p] ≤ age.toNat)
        ∨ ∃ (p : PassNo) (f : Frame), b = put8 p.val ∧ s.trend.frameOfAge p age.toNat = some f
            ∧ f.summary.stations ≤ first.toNat) →
      exec (.trendRead port [b, age, first, count]) s = .next (s.refused port .trendRead .range))

/-- A frame a ring takes becomes its frame of age 0, and every stored frame that is kept is one age older;
an invalid frame in a valid-only ring leaves every age where it was. TREND_HALF and TREND_WRAP go with the
advances onto the midpoint and back to the base slot alone. -/
def RingTaking : Prop :=
  ∀ (t : Trend) (f : Frame) (base : Fin 256) (size : RingSize) (v : Bool),
    t.passes[f.pass].config = .ring base size v → base.val + ringSlots size ≤ 256 →
    PositionLaw t.passes[f.pass] →
    let u := (t.take f).1
    let w := t.passes[f.pass].writePosition
    let notices := (t.take f).2
    ((v = false ∨ frameValid f = true) →
      u.frameOfAge f.pass 0 = some f
      ∧ storedFrames u.passes[f.pass] = min (storedFrames t.passes[f.pass] + 1) (ringSlots size)
      ∧ (∀ k, k + 1 < storedFrames u.passes[f.pass] → u.frameOfAge f.pass (k + 1) = t.frameOfAge f.pass k)
      ∧ (w + 1 = ringSlots size / 2 → notices = [⟨.trendHalf, some f.pass.val⟩])
      ∧ (w + 1 = ringSlots size → notices = [⟨.trendWrap, some f.pass.val⟩])
      ∧ (w + 1 ≠ ringSlots size / 2 → w + 1 ≠ ringSlots size → notices = []))
    ∧ ((v = true ∧ frameValid f = false) →
      storedFrames u.passes[f.pass] = min (storedFrames t.passes[f.pass]) (ringSlots size - 1)
      ∧ (∀ k, k < storedFrames u.passes[f.pass] → u.frameOfAge f.pass k = t.frameOfAge f.pass k)
      ∧ notices = [])

/-- A SNAPSHOT pass stores every frame as its one frame; a PAIRED pass presents the newest valid frame, an
invalid one leaving the one presented as it was; an OFF pass stores none. None of them emits a notice. -/
def SnapshotPairedAndOffTaking : Prop :=
  ∀ (t : Trend) (f : Frame) (base : Fin 256),
    let u := (t.take f).1
    let config := t.passes[f.pass].config
    (config = .off → t.take f = (t, []))
    ∧ (config = .snapshot base →
      u.frameOfAge f.pass 0 = some f ∧ storedFrames u.passes[f.pass] = 1 ∧ (t.take f).2 = [])
    ∧ (config = .paired base → base.val + 2 ≤ 256 →
      (t.take f).2 = []
      ∧ (frameValid f = true →
        u.frameOfAge f.pass 0 = some f ∧ storedFrames u.passes[f.pass] = 1
        ∧ u.passes[f.pass].active ≠ t.passes[f.pass].active)
      ∧ (frameValid f = false →
        u.frameOfAge f.pass 0 = t.frameOfAge f.pass 0 ∧ u.passes[f.pass] = t.passes[f.pass]))

/-- The taking of a frame leaves the record of every other pass and every slot outside its pass's
allocation. -/
def TakingStaysInTheAllocation : Prop :=
  ∀ (t : Trend) (f : Frame), PositionLaw t.passes[f.pass] →
    let u := (t.take f).1
    (∀ q : PassNo, q ≠ f.pass → u.passes[q] = t.passes[q])
    ∧ u.passes[f.pass].config = t.passes[f.pass].config
    ∧ ∀ n : Fin 256, inAllocation t.passes[f.pass].config n.val = false → u.pool[n] = t.pool[n]

/-- The taking of a frame in every mode. -/
def Obligations.RingAgesMoveByOne : Prop :=
  RingTaking ∧ SnapshotPairedAndOffTaking ∧ TakingStaysInTheAllocation

/-- LOG_READ on a log that obeys its law: records of consecutive sequences from the asked one, none at the
next sequence, GONE behind the oldest and RANGE beyond; these replies of the log carry oldest sequence and
count. That R147's "every reply" means the log's own, and not a PERMIT or FORMAT reply, is the reading of log
entry 22. -/
def Obligations.LogReadReturnsConsecutiveRecords : Prop :=
  ∀ (s : State) (p : Port) (hi lo count : Byte), s.takes p .logRead → LogLaw s.log →
    let d := ((hi ++ lo) - s.log.oldest).toNat
    let position := [s.log.oldest.extractLsb' 8 8, s.log.oldest.extractLsb' 0 8] ++ put16 s.log.count
    (d < s.log.count →
      ∃ rs : List Record, rs.length = min (min count.toNat 8) (s.log.count - d)
        ∧ (∀ (j : Nat) (r : Record), rs[j]? = some r →
            r.sequence = (hi ++ lo) + BitVec.ofNat 16 j ∧ ∃ n : Fin 256, s.log.slots[n] = some r)
        ∧ exec (.logRead p [hi, lo, count]) s = .next (s.replied p .logRead .done
            (position ++ [put8 rs.length] ++ rs.flatMap recordBytes)))
    ∧ (d = s.log.count →
        exec (.logRead p [hi, lo, count]) s = .next (s.replied p .logRead .done (position ++ [0])))
    ∧ (32768 ≤ d →
        exec (.logRead p [hi, lo, count]) s = .next (s.replied p .logRead .gone position))
    ∧ (s.log.count < d → d < 32768 →
        exec (.logRead p [hi, lo, count]) s = .next (s.replied p .logRead .range position))
    ∧ ByDefault .logRead true

/-- LOG_CLEAR empties the log and keeps its numbering and its write position. -/
def LogClearKeepsNumbering : Prop :=
  ∀ (s : State) (p : Port), s.takes p .logClear →
    ∃ t : State, exec (.logClear p []) s = .next (t.replied p .logClear .done [])
      ∧ (∀ n : Fin 256, t.log.slots[n] = none) ∧ t.log.count = 0
      ∧ t.log.oldest = s.log.oldest + BitVec.ofNat 16 s.log.count
      ∧ t.log.writePosition = s.log.writePosition
      ∧ t = { s with log := t.log }

/-- The taking of a record: it gets the next sequence, stands at the write position, and replaces the
oldest of a full log; LOG_HALF and LOG_WRAP go with the write position alone. -/
def LogTakesRecords : Prop :=
  ∀ (l : Log) (b : RecordBody),
    (l.take b).slots[l.writePosition] = some ⟨l.oldest + BitVec.ofNat 16 l.count, b⟩
    ∧ (∀ n : Fin 256, n ≠ l.writePosition → (l.take b).slots[n] = l.slots[n])
    ∧ (l.take b).writePosition = l.writePosition + 1
    ∧ (l.count < 256 → (l.take b).count = l.count + 1 ∧ (l.take b).oldest = l.oldest)
    ∧ (l.count = 256 → (l.take b).count = 256 ∧ (l.take b).oldest = l.oldest + 1)
    ∧ l.takeNotice = (if l.writePosition = 127 then [⟨.logHalf, none⟩]
        else if l.writePosition = 255 then [⟨.logWrap, none⟩] else [])

/-- The taking of records, and LOG_CLEAR. -/
def Obligations.LogTakesAndClears : Prop :=
  LogTakesRecords ∧ LogClearKeepsNumbering ∧ ByDefault .logClear false

/-- The four cases of a notice's arrival at an unmasked kind, and its counting at a masked one; nothing but
the Notice Unit changes. -/
def Obligations.NoticeArrivalCases : Prop :=
  ∀ (timeTag : Word32) (f : Flow) (n : Notice),
    let u := f.notices
    let t := f.receive timeTag (.notice n)
    let entry : QueueEntry := ⟨n, 1, false, timeTag⟩
    let k := u.kinds[noticeIndex n.kind]
    let lost : ConditionFlags := { u.flags with noticeLost := true }
    t = { f with notices := { u with
        queue := t.notices.queue, kinds := t.notices.kinds, flags := t.notices.flags } }
    ∧ (k.masked = true →
      t.notices.queue = u.queue ∧ t.notices.flags = u.flags
      ∧ (∀ j, j ≠ noticeIndex n.kind → t.notices.kinds[j] = u.kinds[j])
      ∧ (k.pending = none →
          t.notices.kinds[noticeIndex n.kind] = ⟨true, some ⟨n.parameter, 1, timeTag⟩⟩)
      ∧ ∀ r, k.pending = some r →
          t.notices.kinds[noticeIndex n.kind] =
            ⟨true, some ⟨n.parameter, min 255 (r.count + 1), r.timeTag⟩⟩)
    ∧ (k.masked = false →
      t.notices.kinds = u.kinds
      ∧ ((∃ e ∈ u.queue, e.notice = n) →
          t.notices.flags = u.flags
          ∧ t.notices.queue = u.queue.map fun e =>
              if e.notice = n then { e with repeats := min 255 (e.repeats + 1) } else e)
      ∧ ((∀ e ∈ u.queue, e.notice ≠ n) →
        (u.queue.length < 32 → t.notices.queue = u.queue ++ [entry] ∧ t.notices.flags = u.flags)
        ∧ (∀ front e back, 32 ≤ u.queue.length → u.queue = front ++ e :: back →
            (∀ x ∈ u.queue, e.level ≤ x.level) → (∀ x ∈ front, e.level < x.level) →
            e.level ≤ noticeLevel n.kind →
            t.notices.queue = front ++ back ++ [entry] ∧ t.notices.flags = lost)
        ∧ (32 ≤ u.queue.length → (∀ x ∈ u.queue, noticeLevel n.kind < x.level) →
            t.notices.queue = u.queue ∧ t.notices.flags = lost)))

/-- NOTICE_TAKE removes up to four entries, highest level first and oldest first within a level, and
returns them with the numbers returned and remaining. -/
def Obligations.NoticeTakeReturnsHighestOldest : Prop :=
  (∀ (s : State) (p : Port) (count : Byte), s.takes p .noticeTake →
    ∃ taken rest : List QueueEntry,
      exec (.noticeTake p [count]) s = .next
        ({ s with notices := { s.notices with queue := rest } }.replied p .noticeTake .done
          ([put8 taken.length, put8 rest.length] ++ taken.flatMap noticeBytes))
      ∧ taken.length = min (min count.toNat 4) s.notices.queue.length
      ∧ (taken ++ rest).Perm s.notices.queue ∧ rest.Sublist s.notices.queue
      ∧ taken.Pairwise (fun a b => b.level ≤ a.level)
      ∧ (∀ a ∈ taken, ∀ b ∈ rest, b.level ≤ a.level)
      ∧ ∀ level, s.notices.queue.filter (fun e => e.level == level) =
          taken.filter (fun e => e.level == level) ++ rest.filter (fun e => e.level == level))
  ∧ ByDefault .noticeTake false

/-- The release of a pending record as one held entry (R155), by the first case of R153 that applies: counted
into the queued entry of its matter, whose held marker becomes yes and whose time tag and place are kept; or
added as the newest entry, where fewer than 32 are queued; or added in place of the oldest of the lowest level
present, if that level is not above its own; or lost. The last two set NOTICE_LOST. -/
def PendingReleased (u : NoticeUnit) (released : QueueEntry) (queue : List QueueEntry)
    (flags : ConditionFlags) : Prop :=
  let lost : ConditionFlags := { u.flags with noticeLost := true }
  ((∃ e ∈ u.queue, e.notice = released.notice) →
    flags = u.flags
    ∧ queue = u.queue.map fun e =>
        if e.notice = released.notice then
          { e with repeats := min 255 (e.repeats + released.repeats), held := true }
        else e)
  ∧ ((∀ e ∈ u.queue, e.notice ≠ released.notice) →
    (u.queue.length < 32 → queue = u.queue ++ [released] ∧ flags = u.flags)
    ∧ (∀ front e back, 32 ≤ u.queue.length → u.queue = front ++ e :: back →
        (∀ x ∈ u.queue, e.level ≤ x.level) → (∀ x ∈ front, e.level < x.level) → e.level ≤ released.level →
        queue = front ++ back ++ [released] ∧ flags = lost)
    ∧ (32 ≤ u.queue.length → (∀ x ∈ u.queue, released.level < x.level) → queue = u.queue ∧ flags = lost))

/-- NOTICE_MASK_SET and ATTENTION_SET: a mask written, a set pending record released as one held entry
when its kind is unmasked, an attention level written and the line judged against it, and RANGE. -/
def Obligations.MaskAndAttentionRequests : Prop :=
  ∀ (s : State) (p : Port) (b flag : Byte),
    (s.takes p .noticeMaskSet →
      ((16 ≤ b.toNat ∨ 1 < flag.toNat) →
        exec (.noticeMaskSet p [b, flag]) s = .next (s.refused p .noticeMaskSet .range))
      ∧ ∀ k : NoticeKind, b = noticeKindByte k →
        let kinds (e : KindEntry) := upd s.notices.kinds (noticeIndex k) fun _ => e
        let pending := s.notices.kinds[noticeIndex k].pending
        let done (u : NoticeUnit) := { s with notices := u }.replied p .noticeMaskSet .done []
        (flag = 1 → exec (.noticeMaskSet p [b, flag]) s = .next
          (done { s.notices with kinds := kinds ⟨true, pending⟩ }))
        ∧ (flag = 0 → s.notices.kinds[noticeIndex k].masked = false →
          exec (.noticeMaskSet p [b, flag]) s = .next (done s.notices))
        ∧ (flag = 0 → s.notices.kinds[noticeIndex k].masked = true → pending = none →
          exec (.noticeMaskSet p [b, flag]) s = .next (done { s.notices with kinds := kinds ⟨false, none⟩ }))
        ∧ ∀ r, flag = 0 → s.notices.kinds[noticeIndex k].masked = true → pending = some r →
          ∃ queue flags, exec (.noticeMaskSet p [b, flag]) s = .next (done
              { s.notices with kinds := kinds ⟨false, none⟩, queue := queue, flags := flags })
            ∧ PendingReleased s.notices ⟨⟨k, r.parameter⟩, r.count, true, r.timeTag⟩ queue flags)
    ∧ (s.takes p .attentionSet →
      (3 < b.toNat → exec (.attentionSet p [b]) s = .next (s.refused p .attentionSet .range))
      ∧ ∀ level : Fin 4, b = put8 level.val →
        ∃ t : State, exec (.attentionSet p [b]) s = .next (t.replied p .attentionSet .done [])
          ∧ t = { s with notices := { s.notices with level := level } }
          ∧ (t.attentionLine = true ↔ ∃ e ∈ s.notices.queue, level.val ≤ e.level))
    ∧ ByDefault .noticeMaskSet false ∧ ByDefault .attentionSet false

/-! ### Laws that every step keeps -/

/-- The laws hold at reset. -/
def Obligations.LawsHoldAtReset : Prop :=
  LogLaw State.reset.log ∧ QueueLaw State.reset.notices
  ∧ (∀ c : ChannelNo, HealthLaw State.reset.input.channels[c])
  ∧ TrendLaw State.reset.trend ∧ ScanLaw State.reset ∧ MapLaw State.reset ∧ RangeLaw State.reset
  ∧ SettingsLaw State.reset ∧ State.reset.link.permitted .permitSet = false

/-- Every step keeps the excursion log's law. -/
def Obligations.StepKeepsLogLaw : Prop :=
  ∀ s t : State, LogLaw s.log → step s = .next t → LogLaw t.log

/-- Every step keeps the notice queue's law. -/
def Obligations.StepKeepsQueueLaw : Prop :=
  ∀ s t : State, QueueLaw s.notices → step s = .next t → QueueLaw t.notices

/-- Every step keeps the law of the channels' runs. -/
def Obligations.StepKeepsHealthLaw : Prop :=
  ∀ s t : State, (∀ c : ChannelNo, HealthLaw s.input.channels[c]) → step s = .next t →
    ∀ c : ChannelNo, HealthLaw t.input.channels[c]

/-- Every step keeps the Trend Store's laws. -/
def Obligations.StepKeepsTrendLaw : Prop :=
  ∀ s t : State, TrendLaw s.trend → step s = .next t → TrendLaw t.trend

/-- Every step keeps the law of the scan and the intake. That the resume marker is clear in STOPPED, after a
STOP with the engine READY too, is the model's reading (log entry 19). -/
def Obligations.StepKeepsScanLaw : Prop :=
  ∀ s t : State, ScanLaw s → step s = .next t → ScanLaw t

/-- Every step keeps the map's law, the law of the scan and the intake holding. -/
def Obligations.StepKeepsMapLaw : Prop :=
  ∀ s t : State, ScanLaw s → MapLaw s → step s = .next t → MapLaw t

/-- Every step keeps every temperature within the device range, the configuration lying in its ranges. -/
def Obligations.StepKeepsRangeLaw : Prop :=
  ∀ s t : State, SettingsLaw s → RangeLaw s → step s = .next t → RangeLaw t

/-- Every step keeps the configuration in its ranges and free of routing conflicts. -/
def Obligations.StepKeepsSettingsLaw : Prop :=
  ∀ s t : State, SettingsLaw s → step s = .next t → SettingsLaw t
end

