-- ==== Sys2Proof/Laws/Tables.lean ====
section
/-! SUPPORT. The lemmas of the fixed tables: what a row of `tab`, `upd` and `fill` is. -/

namespace Sys2Proof

variable {α : Type} {n : Nat}

@[simp] theorem tab_get (f : Fin n → α) (k : Nat) (h : k < n) : (tab f)[k] = f ⟨k, h⟩ := by
  simp [tab]

@[simp] theorem fill_get (a : α) (k : Nat) (h : k < n) : (fill n a)[k] = a := by
  simp [fill]

theorem upd_get (v : Vector α n) (i : Fin n) (f : α → α) (k : Nat) (h : k < n) :
    (upd v i f)[k] = if i.val = k then f v[k] else v[k] := by
  unfold upd
  rw [Vector.getElem_set]
  split
  · subst_vars; rfl
  · rfl

@[simp] theorem upd_get_self (v : Vector α n) (i : Fin n) (f : α → α) :
    (upd v i f)[i.val] = f v[i.val] := by simp [upd_get]

theorem upd_get_ne (v : Vector α n) (i : Fin n) (f : α → α) (k : Nat) (h : k < n) (hk : k ≠ i.val) :
    (upd v i f)[k] = v[k] := by simp [upd_get, Ne.symm hk]

/-- Two changes of one row are one. -/
@[simp] theorem upd_upd (v : Vector α n) (i : Fin n) (f g : α → α) :
    upd (upd v i f) i g = upd v i fun a => g (f a) := by
  apply Vector.ext
  intro k hk
  simp only [upd_get]
  split <;> rfl

/-- Tables are equal when their rows are. -/
theorem table_ext {v w : Vector α n} (h : ∀ i : Fin n, v[i] = w[i]) : v = w :=
  Vector.ext fun k hk => h ⟨k, hk⟩

end Sys2Proof
end

