-- ==== Sys2Proof/Laws/State.lean ====
section
/-! SUPPORT. One lemma per field per named update of the state: what it sets and what it leaves. -/

namespace Sys2Proof.Machine

variable (s : State)

/-! `State.setPort` -/

@[simp] theorem State.setPort_powered (p : Port) (q : PortState) : (s.setPort p q).powered = s.powered := by cases p <;> rfl
@[simp] theorem State.setPort_resetPin (p : Port) (q : PortState) : (s.setPort p q).resetPin = s.resetPin := by cases p <;> rfl
@[simp] theorem State.setPort_op (p : Port) (q : PortState) : (s.setPort p q).op = s.op := by cases p <;> rfl
@[simp] theorem State.setPort_input (p : Port) (q : PortState) : (s.setPort p q).input = s.input := by cases p <;> rfl
@[simp] theorem State.setPort_map (p : Port) (q : PortState) : (s.setPort p q).map = s.map := by cases p <;> rfl
@[simp] theorem State.setPort_trend (p : Port) (q : PortState) : (s.setPort p q).trend = s.trend := by cases p <;> rfl
@[simp] theorem State.setPort_log (p : Port) (q : PortState) : (s.setPort p q).log = s.log := by cases p <;> rfl
@[simp] theorem State.setPort_notices (p : Port) (q : PortState) : (s.setPort p q).notices = s.notices := by cases p <;> rfl
@[simp] theorem State.setPort_transit (p : Port) (q : PortState) : (s.setPort p q).transit = s.transit := by cases p <;> rfl
@[simp] theorem State.setPort_draws (p : Port) (q : PortState) : (s.setPort p q).draws = s.draws := by cases p <;> rfl
@[simp] theorem State.setPort_pending (p : Port) (q : PortState) : (s.setPort p q).pending = s.pending := by cases p <;> rfl

/-! `State.hunt` -/

@[simp] theorem State.hunt_powered (p : Port) : (s.hunt p).powered = s.powered := by cases p <;> rfl
@[simp] theorem State.hunt_resetPin (p : Port) : (s.hunt p).resetPin = s.resetPin := by cases p <;> rfl
@[simp] theorem State.hunt_op (p : Port) : (s.hunt p).op = s.op := by cases p <;> rfl
@[simp] theorem State.hunt_input (p : Port) : (s.hunt p).input = s.input := by cases p <;> rfl
@[simp] theorem State.hunt_map (p : Port) : (s.hunt p).map = s.map := by cases p <;> rfl
@[simp] theorem State.hunt_trend (p : Port) : (s.hunt p).trend = s.trend := by cases p <;> rfl
@[simp] theorem State.hunt_log (p : Port) : (s.hunt p).log = s.log := by cases p <;> rfl
@[simp] theorem State.hunt_notices (p : Port) : (s.hunt p).notices = s.notices := by cases p <;> rfl
@[simp] theorem State.hunt_transit (p : Port) : (s.hunt p).transit = s.transit := by cases p <;> rfl
@[simp] theorem State.hunt_draws (p : Port) : (s.hunt p).draws = s.draws := by cases p <;> rfl
@[simp] theorem State.hunt_pending (p : Port) : (s.hunt p).pending = s.pending := by cases p <;> rfl

/-! `State.sendReply` -/

@[simp] theorem State.sendReply_powered (p : Port) (kind : Byte) (a : Answer) : (s.sendReply p kind a).powered = s.powered := by cases p <;> rfl
@[simp] theorem State.sendReply_resetPin (p : Port) (kind : Byte) (a : Answer) : (s.sendReply p kind a).resetPin = s.resetPin := by cases p <;> rfl
@[simp] theorem State.sendReply_op (p : Port) (kind : Byte) (a : Answer) : (s.sendReply p kind a).op = s.op := by cases p <;> rfl
@[simp] theorem State.sendReply_input (p : Port) (kind : Byte) (a : Answer) : (s.sendReply p kind a).input = s.input := by cases p <;> rfl
@[simp] theorem State.sendReply_map (p : Port) (kind : Byte) (a : Answer) : (s.sendReply p kind a).map = s.map := by cases p <;> rfl
@[simp] theorem State.sendReply_trend (p : Port) (kind : Byte) (a : Answer) : (s.sendReply p kind a).trend = s.trend := by cases p <;> rfl
@[simp] theorem State.sendReply_log (p : Port) (kind : Byte) (a : Answer) : (s.sendReply p kind a).log = s.log := by cases p <;> rfl
@[simp] theorem State.sendReply_notices (p : Port) (kind : Byte) (a : Answer) : (s.sendReply p kind a).notices = s.notices := by cases p <;> rfl
@[simp] theorem State.sendReply_transit (p : Port) (kind : Byte) (a : Answer) : (s.sendReply p kind a).transit = s.transit := by cases p <;> rfl
@[simp] theorem State.sendReply_draws (p : Port) (kind : Byte) (a : Answer) : (s.sendReply p kind a).draws = s.draws := by cases p <;> rfl
@[simp] theorem State.sendReply_pending (p : Port) (kind : Byte) (a : Answer) : (s.sendReply p kind a).pending = s.pending := by cases p <;> rfl

/-! `State.noteWrite` -/

@[simp] theorem State.noteWrite_powered (p : Port) (k : RequestKind) (code : ResultCode) : (s.noteWrite p k code).powered = s.powered := by unfold State.noteWrite; split <;> rfl
@[simp] theorem State.noteWrite_resetPin (p : Port) (k : RequestKind) (code : ResultCode) : (s.noteWrite p k code).resetPin = s.resetPin := by unfold State.noteWrite; split <;> rfl
@[simp] theorem State.noteWrite_link (p : Port) (k : RequestKind) (code : ResultCode) : (s.noteWrite p k code).link = s.link := by unfold State.noteWrite; split <;> rfl
@[simp] theorem State.noteWrite_op (p : Port) (k : RequestKind) (code : ResultCode) : (s.noteWrite p k code).op = s.op := by unfold State.noteWrite; split <;> rfl
@[simp] theorem State.noteWrite_input (p : Port) (k : RequestKind) (code : ResultCode) : (s.noteWrite p k code).input = s.input := by unfold State.noteWrite; split <;> rfl
@[simp] theorem State.noteWrite_map (p : Port) (k : RequestKind) (code : ResultCode) : (s.noteWrite p k code).map = s.map := by unfold State.noteWrite; split <;> rfl
@[simp] theorem State.noteWrite_trend (p : Port) (k : RequestKind) (code : ResultCode) : (s.noteWrite p k code).trend = s.trend := by unfold State.noteWrite; split <;> rfl
@[simp] theorem State.noteWrite_log (p : Port) (k : RequestKind) (code : ResultCode) : (s.noteWrite p k code).log = s.log := by unfold State.noteWrite; split <;> rfl
@[simp] theorem State.noteWrite_transit (p : Port) (k : RequestKind) (code : ResultCode) : (s.noteWrite p k code).transit = s.transit := by unfold State.noteWrite; split <;> rfl
@[simp] theorem State.noteWrite_draws (p : Port) (k : RequestKind) (code : ResultCode) : (s.noteWrite p k code).draws = s.draws := by unfold State.noteWrite; split <;> rfl
@[simp] theorem State.noteWrite_pending (p : Port) (k : RequestKind) (code : ResultCode) : (s.noteWrite p k code).pending = s.pending := by unfold State.noteWrite; split <;> rfl

/-! `State.setFrameError` -/

@[simp] theorem State.setFrameError_powered : (s.setFrameError).powered = s.powered := rfl
@[simp] theorem State.setFrameError_resetPin : (s.setFrameError).resetPin = s.resetPin := rfl
@[simp] theorem State.setFrameError_link : (s.setFrameError).link = s.link := rfl
@[simp] theorem State.setFrameError_op : (s.setFrameError).op = s.op := rfl
@[simp] theorem State.setFrameError_input : (s.setFrameError).input = s.input := rfl
@[simp] theorem State.setFrameError_map : (s.setFrameError).map = s.map := rfl
@[simp] theorem State.setFrameError_trend : (s.setFrameError).trend = s.trend := rfl
@[simp] theorem State.setFrameError_log : (s.setFrameError).log = s.log := rfl
@[simp] theorem State.setFrameError_notices : (s.setFrameError).notices = { s.notices with flags := { s.notices.flags with frameError := true } } := rfl
@[simp] theorem State.setFrameError_transit : (s.setFrameError).transit = s.transit := rfl
@[simp] theorem State.setFrameError_draws : (s.setFrameError).draws = s.draws := rfl
@[simp] theorem State.setFrameError_pending : (s.setFrameError).pending = s.pending := rfl

/-! `State.setMaintWrite` -/

@[simp] theorem State.setMaintWrite_powered : (s.setMaintWrite).powered = s.powered := rfl
@[simp] theorem State.setMaintWrite_resetPin : (s.setMaintWrite).resetPin = s.resetPin := rfl
@[simp] theorem State.setMaintWrite_link : (s.setMaintWrite).link = s.link := rfl
@[simp] theorem State.setMaintWrite_op : (s.setMaintWrite).op = s.op := rfl
@[simp] theorem State.setMaintWrite_input : (s.setMaintWrite).input = s.input := rfl
@[simp] theorem State.setMaintWrite_map : (s.setMaintWrite).map = s.map := rfl
@[simp] theorem State.setMaintWrite_trend : (s.setMaintWrite).trend = s.trend := rfl
@[simp] theorem State.setMaintWrite_log : (s.setMaintWrite).log = s.log := rfl
@[simp] theorem State.setMaintWrite_notices : (s.setMaintWrite).notices = { s.notices with flags := { s.notices.flags with maintWrite := true } } := rfl
@[simp] theorem State.setMaintWrite_transit : (s.setMaintWrite).transit = s.transit := rfl
@[simp] theorem State.setMaintWrite_draws : (s.setMaintWrite).draws = s.draws := rfl
@[simp] theorem State.setMaintWrite_pending : (s.setMaintWrite).pending = s.pending := rfl

/-! `State.setScan` -/

@[simp] theorem State.setScan_powered (x : ScanState) : (s.setScan x).powered = s.powered := rfl
@[simp] theorem State.setScan_resetPin (x : ScanState) : (s.setScan x).resetPin = s.resetPin := rfl
@[simp] theorem State.setScan_link (x : ScanState) : (s.setScan x).link = s.link := rfl
@[simp] theorem State.setScan_op (x : ScanState) : (s.setScan x).op = s.op := rfl
@[simp] theorem State.setScan_input (x : ScanState) : (s.setScan x).input = { s.input with scan := x } := rfl
@[simp] theorem State.setScan_map (x : ScanState) : (s.setScan x).map = s.map := rfl
@[simp] theorem State.setScan_trend (x : ScanState) : (s.setScan x).trend = s.trend := rfl
@[simp] theorem State.setScan_log (x : ScanState) : (s.setScan x).log = s.log := rfl
@[simp] theorem State.setScan_notices (x : ScanState) : (s.setScan x).notices = s.notices := rfl
@[simp] theorem State.setScan_transit (x : ScanState) : (s.setScan x).transit = s.transit := rfl
@[simp] theorem State.setScan_draws (x : ScanState) : (s.setScan x).draws = s.draws := rfl
@[simp] theorem State.setScan_pending (x : ScanState) : (s.setScan x).pending = s.pending := rfl

/-! `State.setOutstanding` -/

@[simp] theorem State.setOutstanding_powered (o : Option Outstanding) : (s.setOutstanding o).powered = s.powered := rfl
@[simp] theorem State.setOutstanding_resetPin (o : Option Outstanding) : (s.setOutstanding o).resetPin = s.resetPin := rfl
@[simp] theorem State.setOutstanding_link (o : Option Outstanding) : (s.setOutstanding o).link = s.link := rfl
@[simp] theorem State.setOutstanding_op (o : Option Outstanding) : (s.setOutstanding o).op = s.op := rfl
@[simp] theorem State.setOutstanding_input (o : Option Outstanding) : (s.setOutstanding o).input = { s.input with outstanding := o } := rfl
@[simp] theorem State.setOutstanding_map (o : Option Outstanding) : (s.setOutstanding o).map = s.map := rfl
@[simp] theorem State.setOutstanding_trend (o : Option Outstanding) : (s.setOutstanding o).trend = s.trend := rfl
@[simp] theorem State.setOutstanding_log (o : Option Outstanding) : (s.setOutstanding o).log = s.log := rfl
@[simp] theorem State.setOutstanding_notices (o : Option Outstanding) : (s.setOutstanding o).notices = s.notices := rfl
@[simp] theorem State.setOutstanding_transit (o : Option Outstanding) : (s.setOutstanding o).transit = s.transit := rfl
@[simp] theorem State.setOutstanding_draws (o : Option Outstanding) : (s.setOutstanding o).draws = s.draws := rfl
@[simp] theorem State.setOutstanding_pending (o : Option Outstanding) : (s.setOutstanding o).pending = s.pending := rfl

/-! `State.updCard` -/

@[simp] theorem State.updCard_powered (k : CardNo) (f : CardEntry → CardEntry) : (s.updCard k f).powered = s.powered := rfl
@[simp] theorem State.updCard_resetPin (k : CardNo) (f : CardEntry → CardEntry) : (s.updCard k f).resetPin = s.resetPin := rfl
@[simp] theorem State.updCard_link (k : CardNo) (f : CardEntry → CardEntry) : (s.updCard k f).link = s.link := rfl
@[simp] theorem State.updCard_op (k : CardNo) (f : CardEntry → CardEntry) : (s.updCard k f).op = s.op := rfl
@[simp] theorem State.updCard_input (k : CardNo) (f : CardEntry → CardEntry) : (s.updCard k f).input = { s.input with cards := upd s.input.cards k f } := rfl
@[simp] theorem State.updCard_map (k : CardNo) (f : CardEntry → CardEntry) : (s.updCard k f).map = s.map := rfl
@[simp] theorem State.updCard_trend (k : CardNo) (f : CardEntry → CardEntry) : (s.updCard k f).trend = s.trend := rfl
@[simp] theorem State.updCard_log (k : CardNo) (f : CardEntry → CardEntry) : (s.updCard k f).log = s.log := rfl
@[simp] theorem State.updCard_notices (k : CardNo) (f : CardEntry → CardEntry) : (s.updCard k f).notices = s.notices := rfl
@[simp] theorem State.updCard_transit (k : CardNo) (f : CardEntry → CardEntry) : (s.updCard k f).transit = s.transit := rfl
@[simp] theorem State.updCard_draws (k : CardNo) (f : CardEntry → CardEntry) : (s.updCard k f).draws = s.draws := rfl
@[simp] theorem State.updCard_pending (k : CardNo) (f : CardEntry → CardEntry) : (s.updCard k f).pending = s.pending := rfl

/-! `State.updChannel` -/

@[simp] theorem State.updChannel_powered (c : ChannelNo) (f : ChannelEntry → ChannelEntry) : (s.updChannel c f).powered = s.powered := rfl
@[simp] theorem State.updChannel_resetPin (c : ChannelNo) (f : ChannelEntry → ChannelEntry) : (s.updChannel c f).resetPin = s.resetPin := rfl
@[simp] theorem State.updChannel_link (c : ChannelNo) (f : ChannelEntry → ChannelEntry) : (s.updChannel c f).link = s.link := rfl
@[simp] theorem State.updChannel_op (c : ChannelNo) (f : ChannelEntry → ChannelEntry) : (s.updChannel c f).op = s.op := rfl
@[simp] theorem State.updChannel_input (c : ChannelNo) (f : ChannelEntry → ChannelEntry) : (s.updChannel c f).input = { s.input with channels := upd s.input.channels c f } := rfl
@[simp] theorem State.updChannel_map (c : ChannelNo) (f : ChannelEntry → ChannelEntry) : (s.updChannel c f).map = s.map := rfl
@[simp] theorem State.updChannel_trend (c : ChannelNo) (f : ChannelEntry → ChannelEntry) : (s.updChannel c f).trend = s.trend := rfl
@[simp] theorem State.updChannel_log (c : ChannelNo) (f : ChannelEntry → ChannelEntry) : (s.updChannel c f).log = s.log := rfl
@[simp] theorem State.updChannel_notices (c : ChannelNo) (f : ChannelEntry → ChannelEntry) : (s.updChannel c f).notices = s.notices := rfl
@[simp] theorem State.updChannel_transit (c : ChannelNo) (f : ChannelEntry → ChannelEntry) : (s.updChannel c f).transit = s.transit := rfl
@[simp] theorem State.updChannel_draws (c : ChannelNo) (f : ChannelEntry → ChannelEntry) : (s.updChannel c f).draws = s.draws := rfl
@[simp] theorem State.updChannel_pending (c : ChannelNo) (f : ChannelEntry → ChannelEntry) : (s.updChannel c f).pending = s.pending := rfl

/-! `State.setLatch` -/

@[simp] theorem State.setLatch_powered (l : ControlLatch) : (s.setLatch l).powered = s.powered := rfl
@[simp] theorem State.setLatch_resetPin (l : ControlLatch) : (s.setLatch l).resetPin = s.resetPin := rfl
@[simp] theorem State.setLatch_link (l : ControlLatch) : (s.setLatch l).link = s.link := rfl
@[simp] theorem State.setLatch_op (l : ControlLatch) : (s.setLatch l).op = s.op := rfl
@[simp] theorem State.setLatch_input (l : ControlLatch) : (s.setLatch l).input = s.input := rfl
@[simp] theorem State.setLatch_map (l : ControlLatch) : (s.setLatch l).map = { s.map with latch := l } := rfl
@[simp] theorem State.setLatch_trend (l : ControlLatch) : (s.setLatch l).trend = s.trend := rfl
@[simp] theorem State.setLatch_log (l : ControlLatch) : (s.setLatch l).log = s.log := rfl
@[simp] theorem State.setLatch_notices (l : ControlLatch) : (s.setLatch l).notices = s.notices := rfl
@[simp] theorem State.setLatch_transit (l : ControlLatch) : (s.setLatch l).transit = s.transit := rfl
@[simp] theorem State.setLatch_draws (l : ControlLatch) : (s.setLatch l).draws = s.draws := rfl
@[simp] theorem State.setLatch_pending (l : ControlLatch) : (s.setLatch l).pending = s.pending := rfl

/-! `State.setQueue` -/

@[simp] theorem State.setQueue_powered (q : List QueueEntry) : (s.setQueue q).powered = s.powered := rfl
@[simp] theorem State.setQueue_resetPin (q : List QueueEntry) : (s.setQueue q).resetPin = s.resetPin := rfl
@[simp] theorem State.setQueue_link (q : List QueueEntry) : (s.setQueue q).link = s.link := rfl
@[simp] theorem State.setQueue_op (q : List QueueEntry) : (s.setQueue q).op = s.op := rfl
@[simp] theorem State.setQueue_input (q : List QueueEntry) : (s.setQueue q).input = s.input := rfl
@[simp] theorem State.setQueue_map (q : List QueueEntry) : (s.setQueue q).map = s.map := rfl
@[simp] theorem State.setQueue_trend (q : List QueueEntry) : (s.setQueue q).trend = s.trend := rfl
@[simp] theorem State.setQueue_log (q : List QueueEntry) : (s.setQueue q).log = s.log := rfl
@[simp] theorem State.setQueue_notices (q : List QueueEntry) : (s.setQueue q).notices = { s.notices with queue := q } := rfl
@[simp] theorem State.setQueue_transit (q : List QueueEntry) : (s.setQueue q).transit = s.transit := rfl
@[simp] theorem State.setQueue_draws (q : List QueueEntry) : (s.setQueue q).draws = s.draws := rfl
@[simp] theorem State.setQueue_pending (q : List QueueEntry) : (s.setQueue q).pending = s.pending := rfl

/-! `State.setTimeTag` -/

@[simp] theorem State.setTimeTag_powered (t : Word32) : (s.setTimeTag t).powered = s.powered := rfl
@[simp] theorem State.setTimeTag_resetPin (t : Word32) : (s.setTimeTag t).resetPin = s.resetPin := rfl
@[simp] theorem State.setTimeTag_link (t : Word32) : (s.setTimeTag t).link = s.link := rfl
@[simp] theorem State.setTimeTag_op (t : Word32) : (s.setTimeTag t).op = { s.op with timeTag := t } := rfl
@[simp] theorem State.setTimeTag_input (t : Word32) : (s.setTimeTag t).input = s.input := rfl
@[simp] theorem State.setTimeTag_map (t : Word32) : (s.setTimeTag t).map = s.map := rfl
@[simp] theorem State.setTimeTag_trend (t : Word32) : (s.setTimeTag t).trend = s.trend := rfl
@[simp] theorem State.setTimeTag_log (t : Word32) : (s.setTimeTag t).log = s.log := rfl
@[simp] theorem State.setTimeTag_notices (t : Word32) : (s.setTimeTag t).notices = s.notices := rfl
@[simp] theorem State.setTimeTag_transit (t : Word32) : (s.setTimeTag t).transit = s.transit := rfl
@[simp] theorem State.setTimeTag_draws (t : Word32) : (s.setTimeTag t).draws = s.draws := rfl
@[simp] theorem State.setTimeTag_pending (t : Word32) : (s.setTimeTag t).pending = s.pending := rfl

/-! `State.setOpState` -/

@[simp] theorem State.setOpState_powered (x : OpState) : (s.setOpState x).powered = s.powered := rfl
@[simp] theorem State.setOpState_resetPin (x : OpState) : (s.setOpState x).resetPin = s.resetPin := rfl
@[simp] theorem State.setOpState_link (x : OpState) : (s.setOpState x).link = s.link := rfl
@[simp] theorem State.setOpState_op (x : OpState) : (s.setOpState x).op = { s.op with state := x } := rfl
@[simp] theorem State.setOpState_input (x : OpState) : (s.setOpState x).input = s.input := rfl
@[simp] theorem State.setOpState_map (x : OpState) : (s.setOpState x).map = s.map := rfl
@[simp] theorem State.setOpState_trend (x : OpState) : (s.setOpState x).trend = s.trend := rfl
@[simp] theorem State.setOpState_log (x : OpState) : (s.setOpState x).log = s.log := rfl
@[simp] theorem State.setOpState_notices (x : OpState) : (s.setOpState x).notices = s.notices := rfl
@[simp] theorem State.setOpState_transit (x : OpState) : (s.setOpState x).transit = s.transit := rfl
@[simp] theorem State.setOpState_draws (x : OpState) : (s.setOpState x).draws = s.draws := rfl
@[simp] theorem State.setOpState_pending (x : OpState) : (s.setOpState x).pending = s.pending := rfl

/-! `State.withFlow` -/

@[simp] theorem State.withFlow_powered (f : Flow) : (s.withFlow f).powered = s.powered := rfl
@[simp] theorem State.withFlow_resetPin (f : Flow) : (s.withFlow f).resetPin = s.resetPin := rfl
@[simp] theorem State.withFlow_link (f : Flow) : (s.withFlow f).link = s.link := rfl
@[simp] theorem State.withFlow_op (f : Flow) : (s.withFlow f).op = s.op := rfl
@[simp] theorem State.withFlow_input (f : Flow) : (s.withFlow f).input = s.input := rfl
@[simp] theorem State.withFlow_map (f : Flow) : (s.withFlow f).map = s.map := rfl
@[simp] theorem State.withFlow_trend (f : Flow) : (s.withFlow f).trend = s.trend := rfl
@[simp] theorem State.withFlow_log (f : Flow) : (s.withFlow f).log = f.log := rfl
@[simp] theorem State.withFlow_notices (f : Flow) : (s.withFlow f).notices = f.notices := rfl
@[simp] theorem State.withFlow_transit (f : Flow) : (s.withFlow f).transit = f.transit := rfl
@[simp] theorem State.withFlow_draws (f : Flow) : (s.withFlow f).draws = s.draws := rfl
@[simp] theorem State.withFlow_pending (f : Flow) : (s.withFlow f).pending = s.pending := rfl

/-! `State.settle` -/

@[simp] theorem State.settle_powered (f : Flow) : (s.settle f).powered = s.powered := rfl
@[simp] theorem State.settle_resetPin (f : Flow) : (s.settle f).resetPin = s.resetPin := rfl
@[simp] theorem State.settle_link (f : Flow) : (s.settle f).link = s.link := rfl
@[simp] theorem State.settle_op (f : Flow) : (s.settle f).op = s.op := rfl
@[simp] theorem State.settle_input (f : Flow) : (s.settle f).input = s.input := rfl
@[simp] theorem State.settle_map (f : Flow) : (s.settle f).map = s.map := rfl
@[simp] theorem State.settle_trend (f : Flow) : (s.settle f).trend = s.trend := rfl
@[simp] theorem State.settle_draws (f : Flow) : (s.settle f).draws = s.draws + 1 := rfl
@[simp] theorem State.settle_pending (f : Flow) : (s.settle f).pending = s.pending := rfl

/-- What every settling of a flow keeps, the emissions of an event keep. -/
theorem State.emit_keeps {α : Type} (f : State → α) (h : ∀ (s : State) (g : Flow), f (s.settle g) = f s)
    (l : List Sent) : f (s.emit l) = f s := by
  induction l generalizing s with
  | nil => rfl
  | cons x l ih => exact (ih _).trans (h _ _)

/-! `State.emit` -/

@[simp] theorem State.emit_powered (l : List Sent) : (s.emit l).powered = s.powered :=
  s.emit_keeps State.powered (fun _ _ => rfl) l
@[simp] theorem State.emit_resetPin (l : List Sent) : (s.emit l).resetPin = s.resetPin :=
  s.emit_keeps State.resetPin (fun _ _ => rfl) l
@[simp] theorem State.emit_link (l : List Sent) : (s.emit l).link = s.link :=
  s.emit_keeps State.link (fun _ _ => rfl) l
@[simp] theorem State.emit_op (l : List Sent) : (s.emit l).op = s.op :=
  s.emit_keeps State.op (fun _ _ => rfl) l
@[simp] theorem State.emit_input (l : List Sent) : (s.emit l).input = s.input :=
  s.emit_keeps State.input (fun _ _ => rfl) l
@[simp] theorem State.emit_map (l : List Sent) : (s.emit l).map = s.map :=
  s.emit_keeps State.map (fun _ _ => rfl) l
@[simp] theorem State.emit_trend (l : List Sent) : (s.emit l).trend = s.trend :=
  s.emit_keeps State.trend (fun _ _ => rfl) l
@[simp] theorem State.emit_draws (l : List Sent) : (s.emit l).draws = s.draws + l.length := by
  induction l generalizing s with
  | nil => rfl
  | cons x l ih => exact (ih _).trans (by rw [settle_draws, List.length_cons]; omega)
@[simp] theorem State.emit_pending (l : List Sent) : (s.emit l).pending = s.pending :=
  s.emit_keeps State.pending (fun _ _ => rfl) l

/-! `State.send` -/

@[simp] theorem State.send_powered (l : List Sent) : (s.send l).powered = s.powered := rfl
@[simp] theorem State.send_resetPin (l : List Sent) : (s.send l).resetPin = s.resetPin := rfl
@[simp] theorem State.send_link (l : List Sent) : (s.send l).link = s.link := rfl
@[simp] theorem State.send_op (l : List Sent) : (s.send l).op = s.op := rfl
@[simp] theorem State.send_input (l : List Sent) : (s.send l).input = s.input := rfl
@[simp] theorem State.send_map (l : List Sent) : (s.send l).map = s.map := rfl
@[simp] theorem State.send_trend (l : List Sent) : (s.send l).trend = s.trend := rfl
@[simp] theorem State.send_draws (l : List Sent) : (s.send l).draws = s.draws + 1 := rfl
@[simp] theorem State.send_pending (l : List Sent) : (s.send l).pending = s.pending := rfl

/-! `State.idle` -/

@[simp] theorem State.idle_powered : (s.idle).powered = s.powered := by unfold State.idle; split <;> rfl
@[simp] theorem State.idle_resetPin : (s.idle).resetPin = s.resetPin := by unfold State.idle; split <;> rfl
@[simp] theorem State.idle_link : (s.idle).link = s.link := by unfold State.idle; split <;> rfl
@[simp] theorem State.idle_op : (s.idle).op = s.op := by unfold State.idle; split <;> rfl
@[simp] theorem State.idle_input : (s.idle).input = s.input := by unfold State.idle; split <;> rfl
@[simp] theorem State.idle_map : (s.idle).map = s.map := by unfold State.idle; split <;> rfl
@[simp] theorem State.idle_trend : (s.idle).trend = s.trend := by unfold State.idle; split <;> rfl
@[simp] theorem State.idle_pending : (s.idle).pending = s.pending := by unfold State.idle; split <;> rfl

/-! `State.abandonMap` -/

@[simp] theorem State.abandonMap_powered : (s.abandonMap).powered = s.powered := rfl
@[simp] theorem State.abandonMap_resetPin : (s.abandonMap).resetPin = s.resetPin := rfl
@[simp] theorem State.abandonMap_link : (s.abandonMap).link = s.link := rfl
@[simp] theorem State.abandonMap_op : (s.abandonMap).op = s.op := rfl
@[simp] theorem State.abandonMap_input : (s.abandonMap).input = s.input := rfl
@[simp] theorem State.abandonMap_map : (s.abandonMap).map = s.map.abandon := rfl
@[simp] theorem State.abandonMap_trend : (s.abandonMap).trend = s.trend := rfl
@[simp] theorem State.abandonMap_log : (s.abandonMap).log = s.log := rfl
@[simp] theorem State.abandonMap_notices : (s.abandonMap).notices = s.notices := rfl
@[simp] theorem State.abandonMap_transit : (s.abandonMap).transit = s.transit := rfl
@[simp] theorem State.abandonMap_draws : (s.abandonMap).draws = s.draws := rfl
@[simp] theorem State.abandonMap_pending : (s.abandonMap).pending = s.pending := rfl

/-! `State.resetRun` -/

@[simp] theorem State.resetRun_powered : (s.resetRun).powered = s.powered := by unfold State.resetRun; rfl
@[simp] theorem State.resetRun_resetPin : (s.resetRun).resetPin = s.resetPin := by unfold State.resetRun; rfl
@[simp] theorem State.resetRun_link : (s.resetRun).link = s.link := by unfold State.resetRun; rfl
@[simp] theorem State.resetRun_op : (s.resetRun).op = s.op := by unfold State.resetRun; rfl
@[simp] theorem State.resetRun_input : (s.resetRun).input = s.input.resetRun := by unfold State.resetRun; rfl
@[simp] theorem State.resetRun_map : (s.resetRun).map = s.map.resetRun := by unfold State.resetRun; rfl
@[simp] theorem State.resetRun_trend : (s.resetRun).trend = s.trend.emptyAll := by unfold State.resetRun; rfl
@[simp] theorem State.resetRun_log : (s.resetRun).log = s.log := by unfold State.resetRun; rfl
@[simp] theorem State.resetRun_notices : (s.resetRun).notices = s.notices := by unfold State.resetRun; rfl
@[simp] theorem State.resetRun_transit : (s.resetRun).transit = s.transit := by unfold State.resetRun; rfl
@[simp] theorem State.resetRun_draws : (s.resetRun).draws = s.draws := by unfold State.resetRun; rfl
@[simp] theorem State.resetRun_pending : (s.resetRun).pending = s.pending := by unfold State.resetRun; rfl

/-! `State.restartRest` -/

@[simp] theorem State.restartRest_powered : (s.restartRest).powered = s.powered := rfl
@[simp] theorem State.restartRest_resetPin : (s.restartRest).resetPin = s.resetPin := rfl
@[simp] theorem State.restartRest_link : (s.restartRest).link = s.link := rfl
@[simp] theorem State.restartRest_op : (s.restartRest).op = s.op := rfl
@[simp] theorem State.restartRest_input : (s.restartRest).input = { s.input with scanNumber := 0 } := rfl
@[simp] theorem State.restartRest_trend : (s.restartRest).trend = s.trend := rfl
@[simp] theorem State.restartRest_log : (s.restartRest).log = Log.reset := rfl
@[simp] theorem State.restartRest_transit : (s.restartRest).transit = s.transit := rfl
@[simp] theorem State.restartRest_draws : (s.restartRest).draws = s.draws := rfl
@[simp] theorem State.restartRest_pending : (s.restartRest).pending = s.pending := rfl

/-! `State.abortScan` -/

@[simp] theorem State.abortScan_powered : (s.abortScan).powered = s.powered := rfl
@[simp] theorem State.abortScan_resetPin : (s.abortScan).resetPin = s.resetPin := rfl
@[simp] theorem State.abortScan_link : (s.abortScan).link = s.link := rfl
@[simp] theorem State.abortScan_op : (s.abortScan).op = { s.op with timer := none } := rfl
@[simp] theorem State.abortScan_map : (s.abortScan).map = s.map := rfl
@[simp] theorem State.abortScan_trend : (s.abortScan).trend = s.trend := rfl
@[simp] theorem State.abortScan_log : (s.abortScan).log = s.log := rfl
@[simp] theorem State.abortScan_notices : (s.abortScan).notices = s.notices := rfl
@[simp] theorem State.abortScan_transit : (s.abortScan).transit = s.transit := rfl
@[simp] theorem State.abortScan_draws : (s.abortScan).draws = s.draws := rfl
@[simp] theorem State.abortScan_pending : (s.abortScan).pending = s.pending := rfl

/-! `State.openScan` -/

@[simp] theorem State.openScan_powered : (s.openScan).powered = s.powered := rfl
@[simp] theorem State.openScan_resetPin : (s.openScan).resetPin = s.resetPin := rfl
@[simp] theorem State.openScan_link : (s.openScan).link = s.link := rfl
@[simp] theorem State.openScan_op : (s.openScan).op = { s.op with timer := some s.input.interval } := rfl
@[simp] theorem State.openScan_map : (s.openScan).map = s.map := rfl
@[simp] theorem State.openScan_trend : (s.openScan).trend = s.trend := rfl
@[simp] theorem State.openScan_log : (s.openScan).log = s.log := rfl
@[simp] theorem State.openScan_notices : (s.openScan).notices = s.notices := rfl
@[simp] theorem State.openScan_transit : (s.openScan).transit = s.transit := rfl
@[simp] theorem State.openScan_draws : (s.openScan).draws = s.draws := rfl
@[simp] theorem State.openScan_pending : (s.openScan).pending = s.pending := rfl

/-! `State.imageArrives` -/

@[simp] theorem State.imageArrives_powered (i : ScanImage) : (s.imageArrives i).powered = s.powered := by
  unfold State.imageArrives; dsimp only; split <;> simp
@[simp] theorem State.imageArrives_resetPin (i : ScanImage) : (s.imageArrives i).resetPin = s.resetPin := by
  unfold State.imageArrives; dsimp only; split <;> simp
@[simp] theorem State.imageArrives_link (i : ScanImage) : (s.imageArrives i).link = s.link := by
  unfold State.imageArrives; dsimp only; split <;> simp
@[simp] theorem State.imageArrives_op (i : ScanImage) : (s.imageArrives i).op = s.op := by
  unfold State.imageArrives; dsimp only; split <;> simp
@[simp] theorem State.imageArrives_input (i : ScanImage) : (s.imageArrives i).input = s.input := by
  unfold State.imageArrives; dsimp only; split <;> simp
@[simp] theorem State.imageArrives_trend (i : ScanImage) : (s.imageArrives i).trend = s.trend := by
  unfold State.imageArrives; dsimp only; split <;> simp
@[simp] theorem State.imageArrives_pending (i : ScanImage) : (s.imageArrives i).pending = s.pending := by
  unfold State.imageArrives; dsimp only; split <;> simp

/-! `State.deliverImage` -/

@[simp] theorem State.deliverImage_powered : (s.deliverImage).powered = s.powered := by unfold State.deliverImage; split <;> simp
@[simp] theorem State.deliverImage_resetPin : (s.deliverImage).resetPin = s.resetPin := by unfold State.deliverImage; split <;> simp
@[simp] theorem State.deliverImage_link : (s.deliverImage).link = s.link := by unfold State.deliverImage; split <;> simp
@[simp] theorem State.deliverImage_op : (s.deliverImage).op = s.op := by unfold State.deliverImage; split <;> simp
@[simp] theorem State.deliverImage_trend : (s.deliverImage).trend = s.trend := by unfold State.deliverImage; split <;> simp
@[simp] theorem State.deliverImage_pending : (s.deliverImage).pending = s.pending := by unfold State.deliverImage; split <;> simp

/-! `State.sendFor` -/

@[simp] theorem State.sendFor_powered (c : ChannelNo) : (s.sendFor c).powered = s.powered := by unfold State.sendFor; split <;> simp
@[simp] theorem State.sendFor_resetPin (c : ChannelNo) : (s.sendFor c).resetPin = s.resetPin := by unfold State.sendFor; split <;> simp
@[simp] theorem State.sendFor_link (c : ChannelNo) : (s.sendFor c).link = s.link := by unfold State.sendFor; split <;> simp
@[simp] theorem State.sendFor_op (c : ChannelNo) : (s.sendFor c).op = s.op := by unfold State.sendFor; split <;> simp
@[simp] theorem State.sendFor_map (c : ChannelNo) : (s.sendFor c).map = s.map := by unfold State.sendFor; split <;> simp
@[simp] theorem State.sendFor_trend (c : ChannelNo) : (s.sendFor c).trend = s.trend := by unfold State.sendFor; split <;> simp
@[simp] theorem State.sendFor_log (c : ChannelNo) : (s.sendFor c).log = s.log := by unfold State.sendFor; split <;> simp
@[simp] theorem State.sendFor_notices (c : ChannelNo) : (s.sendFor c).notices = s.notices := by unfold State.sendFor; split <;> simp
@[simp] theorem State.sendFor_transit (c : ChannelNo) : (s.sendFor c).transit = s.transit := by unfold State.sendFor; split <;> simp
@[simp] theorem State.sendFor_draws (c : ChannelNo) : (s.sendFor c).draws = s.draws := by unfold State.sendFor; split <;> simp
@[simp] theorem State.sendFor_pending (c : ChannelNo) : (s.sendFor c).pending = s.pending := by unfold State.sendFor; split <;> simp

/-! `State.giveReading` -/

@[simp] theorem State.giveReading_powered (c : ChannelNo) (r : Reading) : (s.giveReading c r).powered = s.powered := by
  unfold State.giveReading; dsimp only; split <;> simp
@[simp] theorem State.giveReading_resetPin (c : ChannelNo) (r : Reading) : (s.giveReading c r).resetPin = s.resetPin := by
  unfold State.giveReading; dsimp only; split <;> simp
@[simp] theorem State.giveReading_link (c : ChannelNo) (r : Reading) : (s.giveReading c r).link = s.link := by
  unfold State.giveReading; dsimp only; split <;> simp
@[simp] theorem State.giveReading_op (c : ChannelNo) (r : Reading) : (s.giveReading c r).op = s.op := by
  unfold State.giveReading; dsimp only; split <;> simp
@[simp] theorem State.giveReading_map (c : ChannelNo) (r : Reading) : (s.giveReading c r).map = s.map := by
  unfold State.giveReading; dsimp only; split <;> simp
@[simp] theorem State.giveReading_trend (c : ChannelNo) (r : Reading) : (s.giveReading c r).trend = s.trend := by
  unfold State.giveReading; dsimp only; split <;> simp
@[simp] theorem State.giveReading_pending (c : ChannelNo) (r : Reading) : (s.giveReading c r).pending = s.pending := by
  unfold State.giveReading; dsimp only; split <;> simp

/-! `State.cardAnswered` -/

@[simp] theorem State.cardAnswered_powered (k : CardNo) : (s.cardAnswered k).powered = s.powered := by unfold State.cardAnswered; split <;> simp
@[simp] theorem State.cardAnswered_resetPin (k : CardNo) : (s.cardAnswered k).resetPin = s.resetPin := by unfold State.cardAnswered; split <;> simp
@[simp] theorem State.cardAnswered_link (k : CardNo) : (s.cardAnswered k).link = s.link := by unfold State.cardAnswered; split <;> simp
@[simp] theorem State.cardAnswered_op (k : CardNo) : (s.cardAnswered k).op = s.op := by unfold State.cardAnswered; split <;> simp
@[simp] theorem State.cardAnswered_map (k : CardNo) : (s.cardAnswered k).map = s.map := by unfold State.cardAnswered; split <;> simp
@[simp] theorem State.cardAnswered_trend (k : CardNo) : (s.cardAnswered k).trend = s.trend := by unfold State.cardAnswered; split <;> simp
@[simp] theorem State.cardAnswered_pending (k : CardNo) : (s.cardAnswered k).pending = s.pending := by unfold State.cardAnswered; split <;> simp

/-! `State.cardTimedOut` -/

@[simp] theorem State.cardTimedOut_powered (k : CardNo) : (s.cardTimedOut k).powered = s.powered := by unfold State.cardTimedOut; split <;> simp
@[simp] theorem State.cardTimedOut_resetPin (k : CardNo) : (s.cardTimedOut k).resetPin = s.resetPin := by unfold State.cardTimedOut; split <;> simp
@[simp] theorem State.cardTimedOut_link (k : CardNo) : (s.cardTimedOut k).link = s.link := by unfold State.cardTimedOut; split <;> simp
@[simp] theorem State.cardTimedOut_op (k : CardNo) : (s.cardTimedOut k).op = s.op := by unfold State.cardTimedOut; split <;> simp
@[simp] theorem State.cardTimedOut_map (k : CardNo) : (s.cardTimedOut k).map = s.map := by unfold State.cardTimedOut; split <;> simp
@[simp] theorem State.cardTimedOut_trend (k : CardNo) : (s.cardTimedOut k).trend = s.trend := by unfold State.cardTimedOut; split <;> simp
@[simp] theorem State.cardTimedOut_pending (k : CardNo) : (s.cardTimedOut k).pending = s.pending := by unfold State.cardTimedOut; split <;> simp

/-! `State.requestMissed` -/

@[simp] theorem State.requestMissed_powered (r : CardRequest) : (s.requestMissed r).powered = s.powered := by cases r <;> simp [State.requestMissed]
@[simp] theorem State.requestMissed_resetPin (r : CardRequest) : (s.requestMissed r).resetPin = s.resetPin := by cases r <;> simp [State.requestMissed]
@[simp] theorem State.requestMissed_link (r : CardRequest) : (s.requestMissed r).link = s.link := by cases r <;> simp [State.requestMissed]
@[simp] theorem State.requestMissed_op (r : CardRequest) : (s.requestMissed r).op = s.op := by cases r <;> simp [State.requestMissed]
@[simp] theorem State.requestMissed_map (r : CardRequest) : (s.requestMissed r).map = s.map := by cases r <;> simp [State.requestMissed]
@[simp] theorem State.requestMissed_trend (r : CardRequest) : (s.requestMissed r).trend = s.trend := by cases r <;> simp [State.requestMissed]
@[simp] theorem State.requestMissed_log (r : CardRequest) : (s.requestMissed r).log = s.log := by cases r <;> simp [State.requestMissed]
@[simp] theorem State.requestMissed_notices (r : CardRequest) : (s.requestMissed r).notices = s.notices := by cases r <;> simp [State.requestMissed]
@[simp] theorem State.requestMissed_transit (r : CardRequest) : (s.requestMissed r).transit = s.transit := by cases r <;> simp [State.requestMissed]
@[simp] theorem State.requestMissed_draws (r : CardRequest) : (s.requestMissed r).draws = s.draws := by cases r <;> simp [State.requestMissed]
@[simp] theorem State.requestMissed_pending (r : CardRequest) : (s.requestMissed r).pending = s.pending := by cases r <;> simp [State.requestMissed]

/-! `State.beginScan` -/

@[simp] theorem State.beginScan_powered : (s.beginScan).powered = s.powered := by unfold State.beginScan; simp only []; split <;> simp
@[simp] theorem State.beginScan_resetPin : (s.beginScan).resetPin = s.resetPin := by unfold State.beginScan; simp only []; split <;> simp
@[simp] theorem State.beginScan_link : (s.beginScan).link = s.link := by unfold State.beginScan; simp only []; split <;> simp
@[simp] theorem State.beginScan_trend : (s.beginScan).trend = s.trend := by unfold State.beginScan; simp only []; split <;> simp
@[simp] theorem State.beginScan_pending : (s.beginScan).pending = s.pending := by unfold State.beginScan; simp only []; split <;> simp

/-! `State.closeScan` -/

@[simp] theorem State.closeScan_powered : (s.closeScan).powered = s.powered := by unfold State.closeScan; simp only []; split <;> simp
@[simp] theorem State.closeScan_resetPin : (s.closeScan).resetPin = s.resetPin := by unfold State.closeScan; simp only []; split <;> simp
@[simp] theorem State.closeScan_link : (s.closeScan).link = s.link := by unfold State.closeScan; simp only []; split <;> simp
@[simp] theorem State.closeScan_trend : (s.closeScan).trend = s.trend := by unfold State.closeScan; simp only []; split <;> simp
@[simp] theorem State.closeScan_pending : (s.closeScan).pending = s.pending := by unfold State.closeScan; simp only []; split <;> simp

/-- Two states are equal when their fields are. -/
theorem State.eq_of_fields {s t : State} (powered : s.powered = t.powered) (resetPin : s.resetPin = t.resetPin)
    (link : s.link = t.link) (op : s.op = t.op) (input : s.input = t.input) (map : s.map = t.map)
    (trend : s.trend = t.trend) (log : s.log = t.log) (notices : s.notices = t.notices)
    (transit : s.transit = t.transit) (draws : s.draws = t.draws) (pending : s.pending = t.pending) : s = t := by
  cases s
  cases t
  simp_all only

end Sys2Proof.Machine
end

