-- ==== Sys2Proof/Laws/Flow.lean ====
section
/-! SUPPORT. What is in transit: one arrival, the arrivals within an event, emissions. -/

namespace Sys2Proof.Machine

variable {tag : Word32}

/-! ### One arrival -/

/-- What arrives next is the first thing in transit of its stream. -/
theorem Flow.next_cases (f : Flow) (choice : Nat) :
    (f.transit = [] ∧ f.next choice = none)
    ∨ ∃ before x after, f.transit = before ++ x :: after ∧ (∀ y ∈ before, y.stream ≠ x.stream)
      ∧ f.next choice = some x ∧ f.transit.erase x = before ++ after := by
  rcases hl : f.transit with _ | ⟨a, l⟩
  · exact .inl ⟨rfl, by simp [Flow.next, hl]⟩
  · right
    have hlt : choice % f.transit.length < f.transit.length := Nat.mod_lt _ (by simp [hl])
    obtain ⟨x, hx⟩ := Option.isSome_iff_exists.1
      (List.find?_isSome (p := fun y : Sent => y.stream == (f.transit[choice % f.transit.length]).stream)
        |>.2 ⟨_, List.getElem_mem hlt, by simp⟩)
    obtain ⟨hp, before, after, hq, hf⟩ := List.find?_eq_some_iff_append.1 hx
    simp only [beq_iff_eq] at hp
    have hne : ∀ y ∈ before, y.stream ≠ x.stream := by
      intro y hy
      have := hf y hy
      simp only [Bool.not_eq_eq_eq_not, Bool.not_true, beq_eq_false_iff_ne] at this
      exact hp ▸ this
    refine ⟨before, x, after, hl ▸ hq, hne, ?_, ?_⟩
    · rw [Flow.next, List.getElem?_eq_getElem hlt, Option.bind_some, hx]
    · rw [← hl, hq, List.erase_append_right _ (fun hm => hne x hm rfl), List.erase_cons_head]

/-- One arrival, once and for all: there is nothing in transit, or the first thing of a stream arrives. -/
theorem Flow.arrival_cases (f : Flow) (choice : Nat) :
    (f.transit = [] ∧ f.arrival tag choice = f) ∨ Arrives tag f (f.arrival tag choice) := by
  unfold Flow.arrival
  rcases f.next_cases choice with ⟨h, hn⟩ | ⟨before, x, after, h, hne, hn, he⟩
  · exact .inl ⟨h, by rw [hn]⟩
  · exact .inr ⟨before, x, after, h, hne, by rw [hn]; simp only [he]⟩

/-! ### The arrivals within an event -/

theorem Emits.append {a b : List Sent} {f g h : Flow} (first : Emits tag a f g) (rest : Emits tag b g h) :
    Emits tag (a ++ b) f h := by
  induction first with
  | done f => exact rest
  | arrives first _ ih => exact .arrives first (ih rest)
  | emits _ ih => exact .emits (ih rest)

theorem Flow.arrivals_emits (choice : Nat → Nat) (n : Nat) (f : Flow) :
    Emits tag [] f (Flow.arrivals tag choice n f) := by
  induction n generalizing f with
  | zero => exact .done f
  | succ n ih =>
    rcases Flow.arrival_cases (tag := tag) f (choice n) with ⟨-, h⟩ | h
    · rw [Flow.arrivals, h]
      exact ih f
    · exact .arrives h (ih _)

/-- The emissions of one event, with the arrivals within it. -/
theorem State.emit_emits (s : State) (sent : List Sent) :
    Emits s.op.timeTag sent s.flow (s.emit sent).flow := by
  induction sent generalizing s with
  | nil => exact .done _
  | cons x sent ih =>
    exact .emits ((Flow.arrivals_emits (Config.arrivalOrder s.draws) (Config.arrivalCount s.draws) _).append
      (ih (s.settle (s.flow.emitOne x))))

/-- The sending of a publication, with the arrivals within it. -/
theorem State.send_emits (s : State) (sent : List Sent) :
    Emits s.op.timeTag [] { s.flow with transit := s.transit ++ sent } (s.send sent).flow :=
  Flow.arrivals_emits _ _ _

/-! ### What arrivals keep -/

/-- What the taking of a record and of a notice keeps, whatever is in transit, an arrival keeps. -/
structure FlowClosed (tag : Word32) (P : Flow → Prop) : Prop where
  transit : ∀ f l, P f → P { f with transit := l }
  logged : ∀ f b, P f → P { f with log := f.log.take b }
  arrived : ∀ f n, P f → P { f with notices := f.notices.arrive tag n }

namespace FlowClosed

variable {P : Flow → Prop} (h : FlowClosed tag P)
include h

theorem logRecord (f : Flow) (b : RecordBody) (hf : P f) : P (f.logRecord b) :=
  h.transit _ _ (h.logged _ b hf)

theorem emitOne (f : Flow) (x : Sent) (hf : P f) : P (f.emitOne x) := by
  cases x with
  | record b => exact h.logRecord f b hf
  | notice n => exact h.transit _ _ hf

theorem arrives {f g : Flow} (a : Arrives tag f g) (hf : P f) : P g := by
  obtain ⟨before, x, after, -, -, rfl⟩ := a
  cases x with
  | record b => exact h.logRecord _ b (h.transit _ _ hf)
  | notice n => exact h.arrived _ n (h.transit _ _ hf)

theorem emits {sent : List Sent} {f g : Flow} (e : Emits tag sent f g) (hf : P f) : P g := by
  induction e with
  | done f => exact hf
  | arrives first _ ih => exact ih (h.arrives first hf)
  | emits _ ih => exact ih (h.emitOne _ _ hf)

end FlowClosed

/-- What holds of a state whatever its flow is but for the taking of records and notices. -/
structure StateFlowClosed (P : State → Prop) : Prop where
  transit : ∀ s l, P s → P { s with transit := l }
  draws : ∀ s n, P s → P { s with draws := n }
  logged : ∀ s b, P s → P { s with log := s.log.take b }
  arrived : ∀ s n, P s → P { s with notices := s.notices.arrive s.op.timeTag n }

namespace StateFlowClosed

variable {P : State → Prop} (h : StateFlowClosed P)
include h

theorem flow (s : State) : FlowClosed s.op.timeTag fun f => P (s.withFlow f) where
  transit _ l hf := h.transit _ l hf
  logged _ b hf := h.logged _ b hf
  arrived f n hf := h.arrived (s.withFlow f) n hf

theorem settle (s : State) (f : Flow) (hs : P (s.withFlow f)) : P (s.settle f) :=
  h.draws _ _ ((h.flow s).emits (Flow.arrivals_emits _ _ f) hs)

theorem emit (s : State) (sent : List Sent) (hs : P s) : P (s.emit sent) := by
  induction sent generalizing s with
  | nil => exact hs
  | cons x sent ih => exact ih _ (h.settle s _ ((h.flow s).emitOne s.flow x hs))

theorem send (s : State) (sent : List Sent) (hs : P s) : P (s.send sent) :=
  h.draws _ _ ((h.flow s).emits (s.send_emits sent) (h.transit s _ hs))

theorem idle (s : State) (hs : P s) : P s.idle := by
  unfold State.idle
  split
  · refine h.draws _ _ ?_
    rcases Flow.arrival_cases (tag := s.op.timeTag) s.flow (Config.arrivalOrder s.draws 0) with ⟨-, e⟩ | e
    · rw [e]
      exact hs
    · exact (h.flow s).arrives e hs
  · exact hs

end StateFlowClosed

end Sys2Proof.Machine
end

