-- ==== Sys2Proof/Laws/Events.lean ====
section
/-! SUPPORT. What is closed under the small updates of the card link and the scan is closed under their events. -/

namespace Sys2Proof.Machine

/-- A reading that an event makes for a channel: MISSING, or a conversion by the channel's settings. -/
def ReadingOf (s : State) (c : ChannelNo) (r : Reading) : Prop :=
  r = badReading .missing ∨
    ∃ curve card emf burnout, r = convert s.input.channels[c] curve card emf burnout

/-- `P` is kept by the small updates of which the events of the card link and the interval timer consist. -/
structure EventClosed (P : State → Prop) : Prop extends StateFlowClosed P where
  outstanding : ∀ s o, P s → P (s.setOutstanding o)
  asked : ∀ s k, P s → P (s.setScan (markAsked k s.input.scan))
  delivered : ∀ s scan, s.input.scan = .scanning scan → P s →
    P ((s.setScan .waiting).imageArrives (closedImage scan))
  card : ∀ s k f, (∀ e, (f e).substitute = e.substitute) → P s → P (s.updCard k f)
  due : ∀ s b, P s → P { s with input := { s.input with due := b } }
  opened : ∀ s, P s → P s.openScan
  reading : ∀ s c r, ReadingOf s c r → P s → P (s.giveReading c r)

variable {P : State → Prop}

namespace EventClosed

theorem sendFor (h : EventClosed P) (s : State) (c : ChannelNo) (hs : P s) : P (s.sendFor c) := by
  unfold State.sendFor
  split
  · exact h.outstanding _ _ hs
  · exact hs

theorem deliverImage (h : EventClosed P) (s : State) (hs : P s) : P s.deliverImage := by
  unfold State.deliverImage
  split
  · exact h.delivered _ _ (by assumption) hs
  · exact hs

theorem beginScan (h : EventClosed P) (s : State) (hs : P s) : P s.beginScan := by
  unfold State.beginScan
  dsimp only
  split
  · exact h.deliverImage _ (h.opened _ hs)
  · exact h.sendFor _ _ (h.opened _ hs)

theorem closeScan (h : EventClosed P) (s : State) (hs : P s) : P s.closeScan := by
  unfold State.closeScan
  dsimp only
  split
  · exact h.beginScan _ (h.emit _ _ (h.due _ _ (h.deliverImage _ hs)))
  · exact h.deliverImage _ hs

theorem advance (h : EventClosed P) (l : List ChannelNo) : ∀ s : State, P s → P (State.advance l s) := by
  induction l with
  | nil => exact fun s hs => h.closeScan s hs
  | cons c rest ih =>
    intro s hs
    unfold State.advance
    split
    · exact ih _ (h.reading _ _ _ (.inl rfl) hs)
    · exact h.sendFor _ _ hs

theorem goOn (h : EventClosed P) (s : State) (hs : P s) : P s.goOn := by
  unfold State.goOn
  split
  · exact h.advance _ _ hs
  · exact hs

theorem cardAnswered (h : EventClosed P) (s : State) (k : CardNo) (hs : P s) : P (s.cardAnswered k) := by
  unfold State.cardAnswered
  dsimp only
  split
  · exact h.emit _ _ (h.card _ _ _ (fun _ => rfl) hs)
  · exact h.card _ _ _ (fun _ => rfl) hs

theorem cardTimedOut (h : EventClosed P) (s : State) (k : CardNo) (hs : P s) : P (s.cardTimedOut k) := by
  unfold State.cardTimedOut
  dsimp only
  split
  · exact h.card _ _ _ (fun _ => rfl) hs
  · exact h.emit _ _ (h.card _ _ _ (fun _ => rfl) hs)

theorem conversionArrives (h : EventClosed P) (s : State) (sound : Bool) (card : CardNo) (input : Fin 16)
    (emf : Int) (burnout : Bool) (hs : P s) : P (s.conversionArrives sound card input emf burnout) := by
  unfold State.conversionArrives
  split
  · split
    · split
      · exact h.goOn _ (h.outstanding _ _ hs)
      · unfold State.conversionTaken
        split
        · exact h.outstanding _ _ hs
        · exact h.goOn _ (h.reading _ _ _ (.inr ⟨_, _, _, _, rfl⟩)
            (h.cardAnswered _ _ (h.outstanding _ _ hs)))
    · exact hs
  · exact hs

theorem coldJunctionArrives (h : EventClosed P) (s : State) (sound : Bool) (card : CardNo) (t : Int)
    (hs : P s) : P (s.coldJunctionArrives sound card t) := by
  unfold State.coldJunctionArrives
  split
  · split
    · split
      · exact h.goOn _ (h.outstanding _ _ hs)
      · refine h.goOn _ (h.asked _ _ (h.card _ _ _ (fun e => ?_) (h.cardAnswered _ _ (h.outstanding _ _ hs))))
        unfold CardEntry.coldJunctionTaken
        split <;> rfl
    · exact hs
  · exact hs

theorem answerPeriodExpires (h : EventClosed P) (s : State) (hs : P s) : P s.answerPeriodExpires := by
  unfold State.answerPeriodExpires
  split
  · split
    · exact h.goOn _ (h.outstanding _ _ hs)
    · have h1 : ∀ (s : State) (r : CardRequest), P s → P (s.requestMissed r) := by
        intro s r hs
        cases r with
        | conversion => exact hs
        | coldJunction => exact h.card _ _ _ (fun _ => rfl) hs
      unfold State.requestTimedOut
      dsimp only
      split
      · exact h.cardTimedOut _ _ (h1 _ _ (h.outstanding _ _ hs))
      · exact h.goOn _ (h.reading _ _ _ (.inl rfl) (h.cardTimedOut _ _ (h1 _ _ (h.outstanding _ _ hs))))
  · exact hs

theorem timerExpires (h : EventClosed P) (s : State) (hs : P s) : P s.timerExpires := by
  unfold State.timerExpires
  split
  · exact h.beginScan _ hs
  · exact h.due _ _ hs
  · exact hs

end EventClosed

end Sys2Proof.Machine
end

