-- ==== Sys2Proof/Laws/Fields.lean ====
section
/-! SUPPORT. The fields of the Input Processor and of the Map Engine after their named updates. -/

namespace Sys2Proof.Machine

/-! `State.openScan` -/

@[simp] theorem State.openScan_input_channels (s : State) :
    (s.openScan).input.channels = tab fun c => applyEnable (nextScanNumber s.input.scanNumber) s.input.channels[c] := by
  unfold State.openScan; rfl
@[simp] theorem State.openScan_input_curves (s : State) :
    (s.openScan).input.curves = s.input.curves := by
  unfold State.openScan; rfl
@[simp] theorem State.openScan_input_cards (s : State) :
    (s.openScan).input.cards = tab fun k => { s.input.cards[k] with
      presence := openPresence (cardNamed s.openScan.input.channels k) s.input.cards[k].presence
      lostInScan := false } := by
  unfold State.openScan; rfl
@[simp] theorem State.openScan_input_interval (s : State) :
    (s.openScan).input.interval = s.input.interval := by
  unfold State.openScan; rfl
@[simp] theorem State.openScan_input_scanNumber (s : State) :
    (s.openScan).input.scanNumber = nextScanNumber s.input.scanNumber := by
  unfold State.openScan; rfl
@[simp] theorem State.openScan_input_scan (s : State) :
    (s.openScan).input.scan = .scanning ⟨nextScanNumber s.input.scanNumber, s.op.timeTag, s.input.interval,
      scanList s.openScan.input.channels, fill 6 false, fill 96 none⟩ := by
  unfold State.openScan; rfl
@[simp] theorem State.openScan_input_due (s : State) :
    (s.openScan).input.due = s.input.due := by
  unfold State.openScan; rfl
@[simp] theorem State.openScan_input_outstanding (s : State) :
    (s.openScan).input.outstanding = s.input.outstanding := by
  unfold State.openScan; rfl

/-! `State.giveReading` -/

@[simp] theorem State.giveReading_input_curves (s : State) (c : ChannelNo) (r : Reading) :
    (s.giveReading c r).input.curves = s.input.curves := by
  unfold State.giveReading; dsimp only; split <;> simp
@[simp] theorem State.giveReading_input_cards (s : State) (c : ChannelNo) (r : Reading) :
    (s.giveReading c r).input.cards = s.input.cards := by
  unfold State.giveReading; dsimp only; split <;> simp
@[simp] theorem State.giveReading_input_interval (s : State) (c : ChannelNo) (r : Reading) :
    (s.giveReading c r).input.interval = s.input.interval := by
  unfold State.giveReading; dsimp only; split <;> simp
@[simp] theorem State.giveReading_input_scanNumber (s : State) (c : ChannelNo) (r : Reading) :
    (s.giveReading c r).input.scanNumber = s.input.scanNumber := by
  unfold State.giveReading; dsimp only; split <;> simp
@[simp] theorem State.giveReading_input_due (s : State) (c : ChannelNo) (r : Reading) :
    (s.giveReading c r).input.due = s.input.due := by
  unfold State.giveReading; dsimp only; split <;> simp
@[simp] theorem State.giveReading_input_outstanding (s : State) (c : ChannelNo) (r : Reading) :
    (s.giveReading c r).input.outstanding = s.input.outstanding := by
  unfold State.giveReading; dsimp only; split <;> simp

/-! `State.abortScan` -/

@[simp] theorem State.abortScan_input_channels (s : State) :
    (s.abortScan).input.channels = s.input.channels := rfl
@[simp] theorem State.abortScan_input_curves (s : State) :
    (s.abortScan).input.curves = s.input.curves := rfl
@[simp] theorem State.abortScan_input_cards (s : State) :
    (s.abortScan).input.cards = s.input.cards := rfl
@[simp] theorem State.abortScan_input_interval (s : State) :
    (s.abortScan).input.interval = s.input.interval := rfl
@[simp] theorem State.abortScan_input_scanNumber (s : State) :
    (s.abortScan).input.scanNumber = s.input.scanNumber := rfl
@[simp] theorem State.abortScan_input_scan (s : State) :
    (s.abortScan).input.scan = .idle := rfl
@[simp] theorem State.abortScan_input_due (s : State) :
    (s.abortScan).input.due = false := rfl
@[simp] theorem State.abortScan_input_outstanding (s : State) :
    (s.abortScan).input.outstanding = s.input.outstanding.map fun o => { o with aborted := true } := rfl

/-! `State.sendFor` -/

@[simp] theorem State.sendFor_input_channels (s : State) (c : ChannelNo) :
    (s.sendFor c).input.channels = s.input.channels := by
  unfold State.sendFor; split <;> rfl
@[simp] theorem State.sendFor_input_curves (s : State) (c : ChannelNo) :
    (s.sendFor c).input.curves = s.input.curves := by
  unfold State.sendFor; split <;> rfl
@[simp] theorem State.sendFor_input_cards (s : State) (c : ChannelNo) :
    (s.sendFor c).input.cards = s.input.cards := by
  unfold State.sendFor; split <;> rfl
@[simp] theorem State.sendFor_input_interval (s : State) (c : ChannelNo) :
    (s.sendFor c).input.interval = s.input.interval := by
  unfold State.sendFor; split <;> rfl
@[simp] theorem State.sendFor_input_scanNumber (s : State) (c : ChannelNo) :
    (s.sendFor c).input.scanNumber = s.input.scanNumber := by
  unfold State.sendFor; split <;> rfl
@[simp] theorem State.sendFor_input_scan (s : State) (c : ChannelNo) :
    (s.sendFor c).input.scan = s.input.scan := by
  unfold State.sendFor; split <;> rfl
@[simp] theorem State.sendFor_input_due (s : State) (c : ChannelNo) :
    (s.sendFor c).input.due = s.input.due := by
  unfold State.sendFor; split <;> rfl

/-! `State.cardAnswered` -/

@[simp] theorem State.cardAnswered_input_channels (s : State) (k : CardNo) :
    (s.cardAnswered k).input.channels = s.input.channels := by
  unfold State.cardAnswered; dsimp only; split <;> rfl
@[simp] theorem State.cardAnswered_input_curves (s : State) (k : CardNo) :
    (s.cardAnswered k).input.curves = s.input.curves := by
  unfold State.cardAnswered; dsimp only; split <;> rfl
@[simp] theorem State.cardAnswered_input_interval (s : State) (k : CardNo) :
    (s.cardAnswered k).input.interval = s.input.interval := by
  unfold State.cardAnswered; dsimp only; split <;> rfl
@[simp] theorem State.cardAnswered_input_scanNumber (s : State) (k : CardNo) :
    (s.cardAnswered k).input.scanNumber = s.input.scanNumber := by
  unfold State.cardAnswered; dsimp only; split <;> rfl
@[simp] theorem State.cardAnswered_input_scan (s : State) (k : CardNo) :
    (s.cardAnswered k).input.scan = s.input.scan := by
  unfold State.cardAnswered; dsimp only; split <;> rfl
@[simp] theorem State.cardAnswered_input_due (s : State) (k : CardNo) :
    (s.cardAnswered k).input.due = s.input.due := by
  unfold State.cardAnswered; dsimp only; split <;> rfl
@[simp] theorem State.cardAnswered_input_outstanding (s : State) (k : CardNo) :
    (s.cardAnswered k).input.outstanding = s.input.outstanding := by
  unfold State.cardAnswered; dsimp only; split <;> rfl

/-! `State.cardTimedOut` -/

@[simp] theorem State.cardTimedOut_input_channels (s : State) (k : CardNo) :
    (s.cardTimedOut k).input.channels = s.input.channels := by
  unfold State.cardTimedOut; dsimp only; split <;> rfl
@[simp] theorem State.cardTimedOut_input_curves (s : State) (k : CardNo) :
    (s.cardTimedOut k).input.curves = s.input.curves := by
  unfold State.cardTimedOut; dsimp only; split <;> rfl
@[simp] theorem State.cardTimedOut_input_interval (s : State) (k : CardNo) :
    (s.cardTimedOut k).input.interval = s.input.interval := by
  unfold State.cardTimedOut; dsimp only; split <;> rfl
@[simp] theorem State.cardTimedOut_input_scanNumber (s : State) (k : CardNo) :
    (s.cardTimedOut k).input.scanNumber = s.input.scanNumber := by
  unfold State.cardTimedOut; dsimp only; split <;> rfl
@[simp] theorem State.cardTimedOut_input_scan (s : State) (k : CardNo) :
    (s.cardTimedOut k).input.scan = s.input.scan := by
  unfold State.cardTimedOut; dsimp only; split <;> rfl
@[simp] theorem State.cardTimedOut_input_due (s : State) (k : CardNo) :
    (s.cardTimedOut k).input.due = s.input.due := by
  unfold State.cardTimedOut; dsimp only; split <;> rfl
@[simp] theorem State.cardTimedOut_input_outstanding (s : State) (k : CardNo) :
    (s.cardTimedOut k).input.outstanding = s.input.outstanding := by
  unfold State.cardTimedOut; dsimp only; split <;> rfl

/-! `Input.resetRun` -/

@[simp] theorem Input.resetRun_channels (x : Input) :
    (x.resetRun).channels = tab fun c => x.channels[c].resetRun := by
  unfold Input.resetRun; rfl
@[simp] theorem Input.resetRun_curves (x : Input) :
    (x.resetRun).curves = x.curves := by
  unfold Input.resetRun; rfl
@[simp] theorem Input.resetRun_cards (x : Input) :
    (x.resetRun).cards = tab fun k => x.cards[k].resetRun (cardNamed x.channels k) := by
  unfold Input.resetRun; rfl
@[simp] theorem Input.resetRun_interval (x : Input) :
    (x.resetRun).interval = x.interval := by
  unfold Input.resetRun; rfl
@[simp] theorem Input.resetRun_scanNumber (x : Input) :
    (x.resetRun).scanNumber = x.scanNumber := by
  unfold Input.resetRun; rfl
@[simp] theorem Input.resetRun_scan (x : Input) :
    (x.resetRun).scan = x.scan := by
  unfold Input.resetRun; rfl
@[simp] theorem Input.resetRun_due (x : Input) :
    (x.resetRun).due = x.due := by
  unfold Input.resetRun; rfl
@[simp] theorem Input.resetRun_outstanding (x : Input) :
    (x.resetRun).outstanding = x.outstanding := by
  unfold Input.resetRun; rfl

/-! `MapEngine.resetRun` -/

@[simp] theorem MapEngine.resetRun_passes (m : MapEngine) :
    (m.resetRun).passes = tab fun p =>
      { m.passes[p] with held := false, spreadCount := 0, spreadFlag := false } := by
  unfold MapEngine.resetRun; rfl
@[simp] theorem MapEngine.resetRun_bindings (m : MapEngine) :
    (m.resetRun).bindings = m.bindings := by
  unfold MapEngine.resetRun; rfl
@[simp] theorem MapEngine.resetRun_cells (m : MapEngine) :
    (m.resetRun).cells = fill 128 CellState.reset := by
  unfold MapEngine.resetRun; rfl
@[simp] theorem MapEngine.resetRun_zones (m : MapEngine) :
    (m.resetRun).zones = m.zones := by
  unfold MapEngine.resetRun; rfl
@[simp] theorem MapEngine.resetRun_latch (m : MapEngine) :
    (m.resetRun).latch = { m.latch with peakClears := fill 4 none } := by
  unfold MapEngine.resetRun; rfl
@[simp] theorem MapEngine.resetRun_computing (m : MapEngine) :
    (m.resetRun).computing = none := by
  unfold MapEngine.resetRun; rfl
@[simp] theorem MapEngine.resetRun_waiting (m : MapEngine) :
    (m.resetRun).waiting = none := by
  unfold MapEngine.resetRun; rfl
@[simp] theorem MapEngine.resetRun_resumeMarker (m : MapEngine) :
    (m.resetRun).resumeMarker = false := by
  unfold MapEngine.resetRun; rfl
@[simp] theorem MapEngine.resetRun_published (m : MapEngine) :
    (m.resetRun).published = PublishedMap.cleared m.resetRun.passes := by
  unfold MapEngine.resetRun; rfl

/-! `MapEngine.startComputation` -/

@[simp] theorem MapEngine.startComputation_passes (m : MapEngine) (image : MarkedImage) :
    (m.startComputation image).passes = tab fun p => { m.passes[p] with held := m.latchedHeld p } := rfl
@[simp] theorem MapEngine.startComputation_bindings (m : MapEngine) (image : MarkedImage) :
    (m.startComputation image).bindings = m.bindings := rfl
@[simp] theorem MapEngine.startComputation_cells (m : MapEngine) (image : MarkedImage) :
    (m.startComputation image).cells = if image.resume then tab fun i => { m.cells[i] with prevValid := false } else m.cells := rfl
@[simp] theorem MapEngine.startComputation_zones (m : MapEngine) (image : MarkedImage) :
    (m.startComputation image).zones = m.latchedZones := rfl
@[simp] theorem MapEngine.startComputation_latch (m : MapEngine) (image : MarkedImage) :
    (m.startComputation image).latch = m.latch.takeAll := rfl
@[simp] theorem MapEngine.startComputation_waiting (m : MapEngine) (image : MarkedImage) :
    (m.startComputation image).waiting = m.waiting := rfl
@[simp] theorem MapEngine.startComputation_resumeMarker (m : MapEngine) (image : MarkedImage) :
    (m.startComputation image).resumeMarker = m.resumeMarker := rfl
@[simp] theorem MapEngine.startComputation_published (m : MapEngine) (image : MarkedImage) :
    (m.startComputation image).published = m.published := rfl

/-! `MapEngine.completed` -/

@[simp] theorem MapEngine.completed_passes (m : MapEngine) (c : Computation) :
    (m.completed c).passes = checkedPasses m c := rfl
@[simp] theorem MapEngine.completed_bindings (m : MapEngine) (c : Computation) :
    (m.completed c).bindings = m.bindings := rfl
@[simp] theorem MapEngine.completed_cells (m : MapEngine) (c : Computation) :
    (m.completed c).cells = computedCells m c := rfl
@[simp] theorem MapEngine.completed_zones (m : MapEngine) (c : Computation) :
    (m.completed c).zones = m.zones := rfl
@[simp] theorem MapEngine.completed_latch (m : MapEngine) (c : Computation) :
    (m.completed c).latch = m.latch.dropTaken := rfl
@[simp] theorem MapEngine.completed_computing (m : MapEngine) (c : Computation) :
    (m.completed c).computing = none := rfl
@[simp] theorem MapEngine.completed_waiting (m : MapEngine) (c : Computation) :
    (m.completed c).waiting = m.waiting := rfl
@[simp] theorem MapEngine.completed_resumeMarker (m : MapEngine) (c : Computation) :
    (m.completed c).resumeMarker = m.resumeMarker := rfl
@[simp] theorem MapEngine.completed_published (m : MapEngine) (c : Computation) :
    (m.completed c).published = ⟨publishedSummaries m c, tab fun i =>
      if isPresent m.passes i then (computedCells m c)[i] else CellState.reset⟩ := rfl

/-! `MapEngine.setPass` -/

@[simp] theorem MapEngine.setPass_passes (m : MapEngine) (p : PassNo) (n : Nat) (limit : Option Int) :
    (m.setPass p n limit).passes = upd m.passes p fun e => { e with stations := n, spreadLimit := limit } := rfl
@[simp] theorem MapEngine.setPass_zones (m : MapEngine) (p : PassNo) (n : Nat) (limit : Option Int) :
    (m.setPass p n limit).zones = m.zones := rfl
@[simp] theorem MapEngine.setPass_latch (m : MapEngine) (p : PassNo) (n : Nat) (limit : Option Int) :
    (m.setPass p n limit).latch = m.latch := rfl
@[simp] theorem MapEngine.setPass_computing (m : MapEngine) (p : PassNo) (n : Nat) (limit : Option Int) :
    (m.setPass p n limit).computing = m.computing := rfl
@[simp] theorem MapEngine.setPass_waiting (m : MapEngine) (p : PassNo) (n : Nat) (limit : Option Int) :
    (m.setPass p n limit).waiting = m.waiting := rfl
@[simp] theorem MapEngine.setPass_resumeMarker (m : MapEngine) (p : PassNo) (n : Nat) (limit : Option Int) :
    (m.setPass p n limit).resumeMarker = m.resumeMarker := rfl
@[simp] theorem MapEngine.setPass_published (m : MapEngine) (p : PassNo) (n : Nat) (limit : Option Int) :
    (m.setPass p n limit).published = m.published := rfl

/-! Readings and the latch of a computation -/

/-- A reading moves its channel alone: health, runs and last reading. -/
@[simp] theorem State.giveReading_input_channels (s : State) (c : ChannelNo) (r : Reading) :
    (s.giveReading c r).input.channels = upd s.input.channels c fun e =>
      let m := moveHealth r.status.isGood s.input.channels[c].health s.input.channels[c].badRun
        s.input.channels[c].goodRun
      { e with
        health := m.health, badRun := m.badRun, goodRun := m.goodRun
        last := ⟨r.status, r.value, r.clamped, r.cjHeld, s.input.scanNumber⟩ } := by
  unfold State.giveReading; dsimp only; split <;> rfl

/-- A reading is written into the open scan with its usable field. -/
@[simp] theorem State.giveReading_input_scan (s : State) (c : ChannelNo) (r : Reading) :
    (s.giveReading c r).input.scan = recordReading c { r with usable :=
      (moveHealth r.status.isGood s.input.channels[c].health s.input.channels[c].badRun
        s.input.channels[c].goodRun).health == .good } s.input.scan := by
  unfold State.giveReading; dsimp only; split <;> rfl

/-- The computation that a start leaves in flight. -/
theorem MapEngine.startComputation_computing (m : MapEngine) (image : MarkedImage) :
    ∃ c, (m.startComputation image).computing = some c ∧ c.source = image ∧ c.savedZones = m.zones
      ∧ c.savedCells = m.cells ∧ (∀ p : PassNo, c.savedHeld[p] = m.passes[p].held)
      ∧ ∀ p : PassNo, c.released[p] = (m.passes[p].held && !m.latchedHeld p) :=
  ⟨_, rfl, rfl, rfl, rfl, fun p => by simp, fun p => by simp⟩

end Sys2Proof.Machine
end

