-- ==== Sys2Proof/Laws/Operands.lean ====
section
/-! SUPPORT. The fields of requests and replies: what reading a field of a payload gives, and that a written field reads back. -/

namespace Sys2Proof.Machine

/-! ### Reading -/

@[simp] theorem u8_zero (b : Byte) (pl : List Byte) : u8 (b :: pl) 0 = b.toNat := rfl

@[simp] theorem u8_succ (b : Byte) (pl : List Byte) (i : Nat) : u8 (b :: pl) (i + 1) = u8 pl i := rfl

/-- Two bytes as one number. -/
theorem append_toNat (hi lo : Byte) : (hi ++ lo).toNat = hi.toNat * 256 + lo.toNat := by
  rw [BitVec.toNat_append, ← Nat.shiftLeft_add_eq_or_of_lt lo.isLt, Nat.shiftLeft_eq]

/-- The two-byte field at an offset is its two bytes, high byte first. -/
theorem u16_eq (pl : List Byte) (i : Nat) : u16 pl i = (pl.getD i 0 ++ pl.getD (i + 1) 0).toNat := by
  rw [append_toNat]; rfl

/-- The two-byte signed field at an offset is its two bytes, high byte first. -/
theorem s16_eq (pl : List Byte) (i : Nat) : s16 pl i = (pl.getD i 0 ++ pl.getD (i + 1) 0).toInt := by
  unfold s16
  rw [u16_eq, BitVec.ofNat_toNat, BitVec.setWidth_eq]

/-- The four-byte field at an offset is its four bytes, high byte first. -/
theorem u32_eq (pl : List Byte) (i : Nat) :
    u32 pl i = pl.getD i 0 ++ pl.getD (i + 1) 0 ++ pl.getD (i + 2) 0 ++ pl.getD (i + 3) 0 := by
  unfold u32
  rw [u16_eq, u16_eq]
  generalize pl.getD i 0 = a
  generalize pl.getD (i + 1) 0 = b
  generalize pl.getD (i + 2) 0 = c
  generalize pl.getD (i + 3) 0 = d
  have h1 := append_toNat a b
  have h2 := append_toNat c d
  have ha := a.isLt
  have hb := b.isLt
  have hc := c.isLt
  have hd := d.isLt
  apply BitVec.eq_of_toNat_eq
  rw [BitVec.toNat_ofNat, Nat.mod_eq_of_lt (by omega)]
  have e (n : Nat) (x : BitVec n) (y : Byte) : (x ++ y).toNat = x.toNat * 256 + y.toNat := by
    rw [BitVec.toNat_append, ← Nat.shiftLeft_add_eq_or_of_lt y.isLt, Nat.shiftLeft_eq]
  have e4 : (a ++ b ++ c ++ d).toNat = ((a.toNat * 256 + b.toNat) * 256 + c.toNat) * 256 + d.toNat := by
    rw [e, e, h1]
  refine Eq.trans ?_ e4.symm
  rw [h1, h2]
  omega

/-! ### Numbers below a bound, and yes-or-no fields -/

theorem below_some {n x : Nat} {i : Fin n} : below n x = some i ↔ x = i.val := by
  unfold below
  split
  · simp only [Option.some.injEq]
    exact ⟨fun h => by rw [← h], fun h => Fin.ext h⟩
  · rename_i h
    simp only [reduceCtorEq, false_iff]
    intro e
    exact h (e ▸ i.isLt)

theorem below_none {n x : Nat} : below n x = none ↔ n ≤ x := by
  unfold below
  split <;> simp <;> omega

@[simp] theorem put8_toNat (n : Nat) : (put8 n).toNat = n % 256 := by simp [put8]

/-- A number sent in one byte is read back. -/
theorem below_put8 {n : Nat} (h : n ≤ 256) (i : Fin n) : below n (put8 i.val).toNat = some i := by
  rw [below_some, put8_toNat]
  have := i.isLt
  omega

theorem yesNo_putBool (b : Bool) : yesNo (putBool b).toNat = some b := by cases b <;> rfl

theorem yesNo_none {n : Nat} : yesNo n = none ↔ 1 < n := by
  unfold yesNo
  split <;> simp_all
  omega

theorem yesNo_some {n : Nat} {b : Bool} : yesNo n = some b ↔ n = b.toNat := by
  unfold yesNo
  split <;> cases b <;> simp_all

theorem within_iff {lo x hi : Int} : within lo x hi = true ↔ lo ≤ x ∧ x ≤ hi := by simp [within]

/-! ### Writing -/

@[simp] theorem put16_length (x : Int) : (put16 x).length = 2 := rfl
@[simp] theorem putOpt16_length (x : Option Int) : (putOpt16 x).length = 2 := rfl
@[simp] theorem put32_length (w : Word32) : (put32 w).length = 4 := rfl

/-- Two bytes cut from a word and put together again are the word. -/
theorem extract_append16 (w : BitVec 16) : (w.extractLsb' 8 8 ++ w.extractLsb' 0 8 : BitVec 16) = w := by
  ext i hi
  simp only [BitVec.getElem_append, BitVec.getElem_extractLsb']
  split <;> rw [BitVec.getLsbD_eq_getElem (by omega)] <;> congr 1 <;> omega

/-- Four bytes cut from a word and put together again are the word. -/
theorem extract_append32 (w : Word32) :
    (w.extractLsb' 24 8 ++ w.extractLsb' 16 8 ++ w.extractLsb' 8 8 ++ w.extractLsb' 0 8 : BitVec 32) = w := by
  ext i hi
  simp only [BitVec.getElem_append, BitVec.getElem_extractLsb']
  (repeat' split) <;> rw [BitVec.getLsbD_eq_getElem (by omega)] <;> congr 1 <;> omega

/-- A two-byte signed field sent is read back. -/
theorem s16_put16 (x : Int) (h : -32768 ≤ x ∧ x ≤ 32767) (rest : List Byte) : s16 (put16 x ++ rest) 0 = x := by
  rw [s16_eq]
  show ((BitVec.ofInt 16 x).extractLsb' 8 8 ++ (BitVec.ofInt 16 x).extractLsb' 0 8 : BitVec 16).toInt = x
  rw [extract_append16, BitVec.toInt_ofInt, Int.bmod_def]
  omega

/-- A two-byte unsigned field sent is read back. -/
theorem u16_put16 (n : Nat) (h : n < 65536) (rest : List Byte) : u16 (put16 n ++ rest) 0 = n := by
  rw [u16_eq]
  show ((BitVec.ofInt 16 n).extractLsb' 8 8 ++ (BitVec.ofInt 16 n).extractLsb' 0 8 : BitVec 16).toNat = n
  rw [extract_append16, BitVec.ofInt_natCast, BitVec.toNat_ofNat]
  omega

/-- A four-byte field sent is read back. -/
theorem u32_put32 (w : Word32) (rest : List Byte) : u32 (put32 w ++ rest) 0 = w := by
  rw [u32_eq]
  show (w.extractLsb' 24 8 ++ w.extractLsb' 16 8 ++ w.extractLsb' 8 8 ++ w.extractLsb' 0 8 : BitVec 32) = w
  exact extract_append32 w

end Sys2Proof.Machine
end

