-- ==== Sys2Proof/Laws/Ops.lean ====
section
/-! SUPPORT. What the shared operations can do: the notice queue and the taking of frames. -/

namespace Sys2Proof.Machine

/-! ### Levels of the notice queue -/

theorem level_le (e : QueueEntry) : e.level ≤ 3 := by
  unfold QueueEntry.level noticeLevel
  split <;> decide

/-- A fold of a choice of two gives a bound and a member, or the start. -/
theorem foldl_choice {R : Nat → Nat → Prop} (hr : ∀ a, R a a) (ht : ∀ a b c, R a b → R b c → R a c)
    (f : Nat → Nat → Nat) (hl : ∀ a b, R (f a b) a) (hrr : ∀ a b, R (f a b) b)
    (hf : ∀ a b, f a b = a ∨ f a b = b) (l : List Nat) (a : Nat) :
    R (l.foldl f a) a ∧ (∀ x ∈ l, R (l.foldl f a) x) ∧ (l.foldl f a = a ∨ l.foldl f a ∈ l) := by
  induction l generalizing a with
  | nil => exact ⟨hr a, by simp, .inl rfl⟩
  | cons b l ih =>
    obtain ⟨h1, h2, h3⟩ := ih (f a b)
    simp only [List.foldl_cons, List.mem_cons]
    refine ⟨ht _ _ _ h1 (hl a b), ?_, ?_⟩
    · rintro x (rfl | hx)
      · exact ht _ _ _ h1 (hrr a x)
      · exact h2 x hx
    · rcases h3 with h | h
      · rw [h]
        rcases hf a b with h' | h'
        · exact .inl h'
        · exact .inr (.inl h')
      · exact .inr (.inr h)

/-- The lowest level is a lower bound. -/
theorem lowestLevel_le {queue : List QueueEntry} {x : QueueEntry} (h : x ∈ queue) :
    lowestLevel queue ≤ x.level :=
  (foldl_choice (R := (· ≤ ·)) le_refl (fun _ _ _ => le_trans) min min_le_left min_le_right min_choice _ 3).2.1
    _ (List.mem_map_of_mem h)

/-- The lowest level is that of some entry. -/
theorem lowestLevel_mem {queue : List QueueEntry} (h : queue ≠ []) :
    ∃ x ∈ queue, lowestLevel queue = x.level := by
  rcases (foldl_choice (R := (· ≤ ·)) le_refl (fun _ _ _ => le_trans) min min_le_left min_le_right min_choice
    (queue.map QueueEntry.level) 3).2.2 with e | e
  · obtain ⟨x, hx⟩ := List.exists_mem_of_ne_nil queue h
    refine ⟨x, hx, ?_⟩
    have := lowestLevel_le hx
    have := level_le x
    unfold lowestLevel at *
    omega
  · obtain ⟨x, hx, he⟩ := List.mem_map.1 e
    exact ⟨x, hx, he.symm⟩

/-- The highest level is an upper bound. -/
theorem le_highestLevel {queue : List QueueEntry} {x : QueueEntry} (h : x ∈ queue) :
    x.level ≤ highestLevel queue :=
  (foldl_choice (R := (· ≥ ·)) le_refl (fun _ _ _ h h' => le_trans h' h) max le_max_left le_max_right max_choice
    _ 0).2.1 _ (List.mem_map_of_mem h)

/-- The highest level is that of some entry. -/
theorem highestLevel_mem {queue : List QueueEntry} (h : queue ≠ []) :
    ∃ x ∈ queue, highestLevel queue = x.level := by
  rcases (foldl_choice (R := (· ≥ ·)) le_refl (fun _ _ _ h h' => le_trans h' h) max le_max_left le_max_right
    max_choice (queue.map QueueEntry.level) 0).2.2 with e | e
  · obtain ⟨x, hx⟩ := List.exists_mem_of_ne_nil queue h
    refine ⟨x, hx, ?_⟩
    have := le_highestLevel hx
    unfold highestLevel at *
    omega
  · obtain ⟨x, hx, he⟩ := List.mem_map.1 e
    exact ⟨x, hx, he.symm⟩

/-- The entry displaced is the first of the lowest level; the others keep their order. -/
theorem displace_cases {queue : List QueueEntry} (h : queue ≠ []) :
    ∃ front e back, queue = front ++ e :: back ∧ displace queue = front ++ back
      ∧ (∀ x ∈ queue, e.level ≤ x.level) ∧ ∀ x ∈ front, e.level < x.level := by
  obtain ⟨y, hy, he⟩ := lowestLevel_mem h
  obtain ⟨e, front, back, hf, hp, hq, hd⟩ :=
    List.exists_of_eraseP (p := fun x => x.level == lowestLevel queue) hy (by simp [he])
  have hl : e.level = lowestLevel queue := by simpa using hp
  refine ⟨front, e, back, hq, hd, fun x hx => hl ▸ lowestLevel_le hx, fun x hx => ?_⟩
  have h1 : lowestLevel queue ≤ x.level := lowestLevel_le (by rw [hq]; simp [hx])
  have h2 : x.level ≠ lowestLevel queue := by simpa using hf x hx
  omega

/-- The entry taken next is the first of the highest level. -/
theorem nextTaken_cases (queue : List QueueEntry) :
    (queue = [] ∧ nextTaken queue = none)
    ∨ ∃ front e back, queue = front ++ e :: back ∧ nextTaken queue = some e
      ∧ queue.erase e = front ++ back ∧ (∀ x ∈ queue, x.level ≤ e.level) ∧ ∀ x ∈ front, x.level < e.level := by
  rcases queue.eq_nil_or_concat with rfl | hne
  · exact .inl ⟨rfl, rfl⟩
  · right
    have hq0 : queue ≠ [] := by
      rintro rfl
      obtain ⟨_, _, h⟩ := hne
      simp at h
    obtain ⟨y, hy, he⟩ := highestLevel_mem hq0
    obtain ⟨e, hs⟩ := Option.isSome_iff_exists.1
      (List.find?_isSome (p := fun x => x.level == highestLevel queue) |>.2 ⟨y, hy, by simp [he]⟩)
    obtain ⟨hp, front, back, hq, hf⟩ := List.find?_eq_some_iff_append.1 hs
    have hl : e.level = highestLevel queue := by simpa using hp
    have hlt : ∀ x ∈ front, x.level < e.level := by
      intro x hx
      have h1 : x.level ≤ highestLevel queue := le_highestLevel (by rw [hq]; simp [hx])
      have h2 : x.level ≠ highestLevel queue := by simpa using hf x hx
      omega
    refine ⟨front, e, back, hq, hs, ?_, fun x hx => hl ▸ le_highestLevel hx, hlt⟩
    rw [hq, List.erase_append_right _ (fun hm => absurd (hlt e hm) (lt_irrefl _)), List.erase_cons_head]

/-! ### The arrival of a notice (R153, R154) -/

/-- The arrival rule, once and for all: counted into the entry of its matter, added, added in the place of
the oldest of the lowest level, or discarded. -/
theorem NoticeUnit.offer_cases (u : NoticeUnit) (e : QueueEntry) :
    ((∃ q ∈ u.queue, q.notice = e.notice)
      ∧ u.offer e = { u with queue := u.queue.map fun q => if q.notice == e.notice then countInto e q else q })
    ∨ (∀ q ∈ u.queue, q.notice ≠ e.notice)
      ∧ ((u.queue.length < 32 ∧ u.offer e = { u with queue := u.queue ++ [e] })
        ∨ (32 ≤ u.queue.length ∧ lowestLevel u.queue ≤ e.level
          ∧ u.offer e = { u with
              queue := displace u.queue ++ [e], flags := { u.flags with noticeLost := true } })
        ∨ (32 ≤ u.queue.length ∧ e.level < lowestLevel u.queue
          ∧ u.offer e = { u with flags := { u.flags with noticeLost := true } })) := by
  unfold NoticeUnit.offer
  by_cases h : ∃ q ∈ u.queue, q.notice = e.notice
  · left
    refine ⟨h, if_pos ?_⟩
    obtain ⟨q, hq, he⟩ := h
    exact List.any_eq_true.2 ⟨q, hq, by simp [he]⟩
  · right
    have hne : ∀ q ∈ u.queue, q.notice ≠ e.notice := fun q hq he => h ⟨q, hq, he⟩
    refine ⟨hne, ?_⟩
    rw [if_neg (by simpa [List.any_eq_true] using hne)]
    by_cases h1 : u.queue.length < 32
    · exact .inl ⟨h1, if_pos h1⟩
    · rw [if_neg h1]
      by_cases h2 : lowestLevel u.queue ≤ e.level
      · exact .inr (.inl ⟨by omega, h2, if_pos h2⟩)
      · exact .inr (.inr ⟨by omega, by omega, if_neg h2⟩)

/-- The arrival of a notice: counted into the pending record of its masked kind, or offered. -/
theorem NoticeUnit.arrive_cases (tag : Word32) (u : NoticeUnit) (n : Notice) :
    (u.kinds[noticeIndex n.kind].masked = true
      ∧ u.arrive tag n = { u with kinds := upd u.kinds (noticeIndex n.kind) fun k =>
          { k with pending := some (countPending tag n k.pending) } })
    ∨ (u.kinds[noticeIndex n.kind].masked = false ∧ u.arrive tag n = u.offer ⟨n, 1, false, tag⟩) := by
  unfold NoticeUnit.arrive
  dsimp only
  split
  · exact .inl ⟨‹_›, rfl⟩
  · exact .inr ⟨Bool.eq_false_iff.2 ‹_›, rfl⟩

@[simp] theorem NoticeUnit.offer_level (u : NoticeUnit) (e : QueueEntry) : (u.offer e).level = u.level := by
  unfold NoticeUnit.offer
  (repeat' split) <;> rfl

@[simp] theorem NoticeUnit.offer_kinds (u : NoticeUnit) (e : QueueEntry) : (u.offer e).kinds = u.kinds := by
  unfold NoticeUnit.offer
  (repeat' split) <;> rfl

/-- An offer leaves every flag but NOTICE_LOST. -/
theorem NoticeUnit.offer_flags (u : NoticeUnit) (e : QueueEntry) :
    ∃ lost, (u.offer e).flags = { u.flags with noticeLost := lost } := by
  unfold NoticeUnit.offer
  (repeat' split)
  · exact ⟨u.flags.noticeLost, rfl⟩
  · exact ⟨u.flags.noticeLost, rfl⟩
  · exact ⟨true, rfl⟩
  · exact ⟨true, rfl⟩

/-! ### The frames of a publication -/

/-- What each frame keeps, their taking keeps. -/
theorem Trend.takeAll_keeps {P : Trend → Prop} {Q : Frame → Prop} (h : ∀ t f, Q f → P t → P (t.take f).1)
    (t : Trend) (fs : List Frame) (hf : ∀ f ∈ fs, Q f) (ht : P t) : P (t.takeAll fs).1 := by
  induction fs generalizing t with
  | nil => exact ht
  | cons f fs ih =>
    exact ih (t.take f).1 (fun g hg => hf g (by simp [hg])) (h t f (hf f (by simp)) ht)

end Sys2Proof.Machine
end

