-- ==== Sys2Proof/Laws/Owners.lean ====
section
/-! SUPPORT. What is closed under the updates that the owners of the requests make is closed under every request. -/

namespace Sys2Proof.Machine

/-- `P` is kept by every update that the owner of a request makes, the update's conditions holding. -/
structure OwnerClosed (P : State → Prop) : Prop extends EventClosed P where
  conditions : ∀ s, P s → P { s with notices := { s.notices with flags := ⟨false, false, false, false⟩ } }
  started : ∀ s, s.op.state = .stopped → startRefusal s.input = none → P s →
    P (s.resetRun.setOpState .running)
  stopped : ∀ s, P s → P (s.abortScan.abandonMap.setOpState .stopped)
  paused : ∀ s, s.op.state = .running → P s → P (s.abortScan.setOpState .paused)
  resumed : ∀ s, s.op.state = .paused → P s →
    P (State.setOpState { s with map := { s.map with resumeMarker := true } } .running)
  restarted : ∀ s, P s → P (s.abortScan.abandonMap.resetRun.restartRest.setOpState .stopped)
  timeTag : ∀ s t, P s → P (s.setTimeTag t)
  resolution : ∀ s r, P s → P { s with op := { s.op with resolution := r } }
  interval : ∀ s n, 5 ≤ n → n ≤ 600 → P s → P { s with input := { s.input with interval := n } }
  channel : ∀ (s : State) c card input curve gain offset low high, s.op.state = .stopped →
    channelSettingsOk gain offset low high = true →
    (s.input.channels[c].enabled = true → routingConflict s.input.channels c card input = false) → P s →
    P (s.updChannel c fun e =>
      { e with
        card := card, input := input, curve := curve
        gain := gain, offset := offset, lowClamp := low, highClamp := high })
  enable : ∀ (s : State) c b, (b = true → s.input.channels[c].enabled = false →
      routingConflict s.input.channels c s.input.channels[c].card s.input.channels[c].input = false) → P s →
    P (s.updChannel c fun e => { e with enabled := b })
  curve : ∀ s n curve, s.op.state = .stopped → curveOk curve = true → P s →
    P { s with input := { s.input with curves := upd s.input.curves n fun _ => curve } }
  substitute : ∀ s k t, s.op.state = .stopped → -400 ≤ t → t ≤ 1250 → P s →
    P (s.updCard k fun e => { e with substitute := t })
  pass : ∀ s p n limit, s.op.state = .stopped → 1 ≤ n → n ≤ 32 →
    (∀ x, limit = some x → 1 ≤ x ∧ x ≤ 5000) → P s → P { s with map := s.map.setPass p n limit }
  binding : ∀ (s : State) pl i b, s.op.state = .stopped → payloadBinding pl = some b → P s →
    P { s with map := { s.map with bindings := upd s.map.bindings i fun _ => b } }
  zone : ∀ (s : State) pl z r, payloadZone z pl = some r → P s →
    P (s.setLatch { s.map.latch with zoneEdits := upd s.map.latch.zoneEdits z fun _ => written r })
  hold : ∀ (s : State) p b, P s →
    P (s.setLatch { s.map.latch with holds := upd s.map.latch.holds p fun _ => written b })
  peaks : ∀ (s : State) v, P s → P (s.setLatch { s.map.latch with peakClears := v })
  trend : ∀ (s : State) p c, s.op.state = .stopped → fitsPool c = true →
    trendConflict s.trend p c = false → P s → P { s with trend := s.trend.configure p c }
  logClear : ∀ s, P s → P { s with log := s.log.clear }
  taken : ∀ (s : State) n, P s → P (s.setQueue (takeEntries n s.notices.queue).2)
  mask : ∀ s k, P s → P { s with notices := s.notices.mask k }
  unmask : ∀ s k, P s → P { s with notices := s.notices.unmask k }
  level : ∀ s level, P s → P { s with notices := { s.notices with level := level } }
  permit : ∀ (s : State) k b, (k = .permitSet → b = false) → P s →
    P { s with link := { s.link with permits := upd s.link.permits (kindIndex k) fun _ => b } }

variable {P : State → Prop}

namespace OwnerClosed

variable (h : OwnerClosed P) (pl : List Byte) (s : State) (hs : P s)
include h hs

theorem serveStart : P (serveStart s).2 := by
  unfold Machine.serveStart
  split
  · exact hs
  · split
    · exact hs
    · rename_i h0 _ hr
      have hb := h.toEventClosed.beginScan _ (h.started s (not_not.mp h0) hr hs)
      simpa only [answer] using hb

theorem serveStop : P (serveStop pl s).2 := by
  unfold Machine.serveStop
  split
  · exact hs
  · exact h.stopped _ hs

theorem servePause : P (servePause pl s).2 := by
  unfold Machine.servePause
  split
  · exact hs
  · rename_i hr
    refine h.paused _ ?_ hs
    unfold stopRefusal at hr
    split at hr
    · cases hr
    · split at hr
      · cases hr
      · simp_all

theorem serveResume : P (serveResume s).2 := by
  unfold Machine.serveResume
  split
  · exact hs
  · rename_i h0
    have hb := h.toEventClosed.beginScan _ (h.resumed s (not_not.mp h0) hs)
    simpa only [answer] using hb

theorem serveRestart : P (serveRestart pl s).2 := by
  unfold Machine.serveRestart
  split
  · exact hs
  · exact h.restarted _ hs

theorem serveSyncTime : P (serveSyncTime pl s).2 := by
  unfold Machine.serveSyncTime
  split
  · exact hs
  · exact h.timeTag _ _ hs

theorem serveTimeResSet : P (serveTimeResSet pl s).2 := by
  unfold Machine.serveTimeResSet
  split
  · exact hs
  · exact h.resolution _ _ hs

theorem serveScanSet : P (serveScanSet pl s).2 := by
  unfold Machine.serveScanSet
  split
  · rename_i hw
    simp only [within, Bool.and_eq_true, decide_eq_true_eq] at hw
    exact h.interval _ _ (by omega) (by omega) hs
  · exact hs

theorem serveChannelSet : P (serveChannelSet pl s).2 := by
  unfold Machine.serveChannelSet
  split
  · exact hs
  · rename_i h0
    split
    · split
      · exact hs
      · split
        · exact hs
        · refine h.channel _ _ _ _ _ _ _ _ _ (not_not.mp h0) (by simp_all) (fun he => ?_) hs
          simp_all
    · exact hs

theorem serveChannelEnable : P (serveChannelEnable pl s).2 := by
  unfold Machine.serveChannelEnable
  split
  · dsimp only
    split
    · exact hs
    · refine h.enable _ _ _ (fun hb he => ?_) hs
      simp_all
  · exact hs

theorem serveCurveSet : P (serveCurveSet pl s).2 := by
  unfold Machine.serveCurveSet
  split
  · exact hs
  · rename_i h0
    split
    · exact hs
    · split
      · exact hs
      · dsimp only
        split
        · exact h.curve _ _ _ (not_not.mp h0) ‹_› hs
        · exact hs

theorem serveCardSet : P (serveCardSet pl s).2 := by
  unfold Machine.serveCardSet
  split
  · exact hs
  · rename_i h0
    split
    · exact hs
    · split
      · rename_i hw
        simp only [within, Bool.and_eq_true, decide_eq_true_eq] at hw
        exact h.substitute _ _ _ (not_not.mp h0) hw.1 hw.2 hs
      · exact hs

theorem servePassSet : P (servePassSet pl s).2 := by
  unfold Machine.servePassSet
  split
  · exact hs
  · rename_i h0
    split
    · exact hs
    · split
      · exact hs
      · split
        · exact hs
        · rename_i hw hl
          simp only [within, Bool.not_eq_true, Bool.not_eq_false', Bool.and_eq_true, decide_eq_true_eq] at hw
          refine h.pass _ _ _ _ (not_not.mp h0) (by omega) (by omega) (fun x hx => ?_) hs
          simp only [hx, within, Option.all_some, Bool.not_eq_true, Bool.not_eq_false', Bool.and_eq_true,
            decide_eq_true_eq] at hl
          exact hl

theorem serveCellBind : P (serveCellBind pl s).2 := by
  unfold Machine.serveCellBind
  split
  · exact hs
  · rename_i h0
    split
    · exact h.binding _ pl _ _ (not_not.mp h0) ‹_› hs
    · exact hs

theorem serveZoneSet : P (serveZoneSet pl s).2 := by
  unfold Machine.serveZoneSet
  split
  · exact hs
  · split
    · exact hs
    · exact h.zone _ pl _ _ ‹_› hs

theorem writeHold (b : Bool) : P (writeHold b pl s).2 := by
  unfold Machine.writeHold
  split
  · exact hs
  · exact h.hold _ _ _ hs

theorem serveClearPeaks : P (serveClearPeaks pl s).2 := by
  unfold Machine.serveClearPeaks
  split
  · exact hs
  · exact h.peaks _ _ hs

theorem serveTrendSet : P (serveTrendSet pl s).2 := by
  unfold Machine.serveTrendSet
  split
  · exact hs
  · rename_i h0
    split
    · split
      · exact hs
      · exact h.trend _ _ _ (not_not.mp h0) (by simp_all) (by simp_all) hs
    · exact hs

theorem serveNoticeMaskSet : P (serveNoticeMaskSet pl s).2 := by
  unfold Machine.serveNoticeMaskSet
  split
  · rename_i b _ _
    cases b
    · exact h.unmask _ _ hs
    · exact h.mask _ _ hs
  · exact hs

theorem serveAttentionSet : P (serveAttentionSet pl s).2 := by
  unfold Machine.serveAttentionSet
  split
  · exact h.level _ _ hs
  · exact hs

theorem servePermitSet : P (servePermitSet pl s).2 := by
  unfold Machine.servePermitSet
  split
  · split
    · exact hs
    · rename_i hk
      exact h.permit _ _ _ (fun e => by simpa [e] using hk) hs
  · exact hs

omit h in
/-- A request of a read kind changes nothing. -/
theorem serve_read (k : RequestKind) (p : Port) (hk : isReadKind k = true) : P (serveKind k p pl s).2 := by
  cases k <;> try cases hk
  case identify => exact hs
  case status => exact hs
  case channelGet => unfold serveKind serveChannelGet; dsimp only; split <;> exact hs
  case channelStatus => unfold serveKind serveChannelStatus; dsimp only; split <;> exact hs
  case curveGet => unfold serveKind serveCurveGet; dsimp only; split <;> exact hs
  case cardStatus => unfold serveKind serveCardStatus; dsimp only; split <;> exact hs
  case cellGet => unfold serveKind serveCellGet; dsimp only; split <;> exact hs
  case zoneGet => unfold serveKind serveZoneGet; dsimp only; split <;> exact hs
  case mapRead =>
    unfold serveKind serveMapRead; dsimp only
    split
    · exact hs
    · split <;> exact hs
  case passSummary => unfold serveKind servePassSummary; dsimp only; split <;> exact hs
  case trendRead =>
    unfold serveKind serveTrendRead; dsimp only
    split
    · exact hs
    · split
      · exact hs
      · split <;> exact hs
  case logRead =>
    unfold serveKind serveLogRead; dsimp only
    split
    · exact hs
    · split
      · exact hs
      · split <;> exact hs

/-- What the owners' updates keep, every request keeps. -/
theorem serve (k : RequestKind) (p : Port) : P (serveKind k p pl s).2 := by
  cases hk : isReadKind k
  case true => exact serve_read pl s hs k p hk
  case false =>
    cases k <;> try cases hk
    case conditionsTake => exact h.conditions _ hs
    case start => exact h.serveStart s hs
    case stop => exact h.serveStop pl s hs
    case pause => exact h.servePause pl s hs
    case resume => exact h.serveResume s hs
    case restart => exact h.serveRestart pl s hs
    case syncTime => exact h.serveSyncTime pl s hs
    case timeResSet => exact h.serveTimeResSet pl s hs
    case scanSet => exact h.serveScanSet pl s hs
    case channelSet => exact h.serveChannelSet pl s hs
    case channelEnable => exact h.serveChannelEnable pl s hs
    case curveSet => exact h.serveCurveSet pl s hs
    case cardSet => exact h.serveCardSet pl s hs
    case passSet => exact h.servePassSet pl s hs
    case cellBind => exact h.serveCellBind pl s hs
    case zoneSet => exact h.serveZoneSet pl s hs
    case holdPass => exact h.writeHold pl s hs true
    case releasePass => exact h.writeHold pl s hs false
    case clearPeaks => exact h.serveClearPeaks pl s hs
    case trendSet => exact h.serveTrendSet pl s hs
    case logClear => exact h.logClear _ hs
    case noticeTake => exact h.taken _ _ hs
    case noticeMaskSet => exact h.serveNoticeMaskSet pl s hs
    case attentionSet => exact h.serveAttentionSet pl s hs
    case permitSet => exact h.servePermitSet pl s hs

end OwnerClosed

end Sys2Proof.Machine
end

