-- ==== Sys2Proof/WellFormed.lean ====
section
/-! DEFINITION. Which commands can occur: the checks a command's operands meet by the part's connections and frames. -/

namespace Sys2Proof

/-- The straps can be set so: address 0 is the broadcast address and cannot be strapped (00_scope 0.7). -/
def Straps.wellFormed (s : Straps) : Bool := s.address != 0

/-- A payload fits a frame: 0 to 240 bytes (R167). -/
def payloadFits (payload : List Byte) : Bool := payload.length ≤ 240

/-- The command can occur: straps that can be set, a payload that fits a frame, and an unknown kind that
is none of the 37 (R170). A broadcast SYNC_TIME that is taken has the five bytes of the catalogue (R169). -/
def Instr.wellFormed (i : Instr) : Bool :=
  payloadFits i.payload &&
  match i with
  | .powerOn straps => straps.wellFormed
  | .resetPinRelease straps => straps.wellFormed
  | .unknownKindRequest _ kind _ => (RequestKind.ofCode kind).isNone
  | .syncTime _ broadcast payload => !broadcast || payload.length == 5
  | .resetPinAssert | .identify _ _ | .status _ _ | .conditionsTake _ _ | .start _ _ | .stop _ _
    | .pause _ _ | .resume _ _ | .restart _ _ | .timeResSet _ _ | .scanSet _ _ | .channelSet _ _
    | .channelEnable _ _ | .channelGet _ _ | .channelStatus _ _ | .curveSet _ _ | .curveGet _ _
    | .cardSet _ _ | .cardStatus _ _ | .passSet _ _ | .cellBind _ _ | .cellGet _ _ | .zoneSet _ _
    | .zoneGet _ _ | .holdPass _ _ | .releasePass _ _ | .clearPeaks _ _ | .mapRead _ _
    | .passSummary _ _ | .trendSet _ _ | .trendRead _ _ | .logRead _ _ | .logClear _ _
    | .noticeTake _ _ | .noticeMaskSet _ _ | .attentionSet _ _ | .permitSet _ _ | .frameIgnored _
    | .frameDamaged _ | .frameGapTimeout _ | .replyEnd _ | .conversionAnswer _ _ _ _ _
    | .coldJunctionAnswer _ _ _ | .answerPeriodExpiry | .scanIntervalTimerExpiry
    | .timeTagPeriodExpiry | .publication | .byteReceived _ _ | .powerLoss => true

end Sys2Proof
end

