-- ==== Sys2Proof/Laws/PerInstr.lean ====
section
/-! SUPPORT. Laws of the commands as syntax, one lemma for each command: a payload that can occur fits a frame. -/

namespace Sys2Proof.Laws.FitsFrame

/-- A command that can occur carries at most the 240 payload bytes of a frame (R167). -/
def Statement (i : Instr) : Prop := i.wellFormed = true → i.payload.length ≤ 240

/-- What the well-formedness of any command says of its payload. -/
theorem of_wellFormed (i : Instr) : Statement i := fun h =>
  of_decide_eq_true (Bool.and_eq_true_iff.1 h).1

theorem powerOn (straps : Straps) : Statement (.powerOn straps) := of_wellFormed _
theorem resetPinAssert : Statement (.resetPinAssert) := of_wellFormed _
theorem resetPinRelease (straps : Straps) : Statement (.resetPinRelease straps) := of_wellFormed _
theorem identify (port : Port) (payload : List Byte) : Statement (.identify port payload) := of_wellFormed _
theorem status (port : Port) (payload : List Byte) : Statement (.status port payload) := of_wellFormed _
theorem conditionsTake (port : Port) (payload : List Byte) : Statement (.conditionsTake port payload) := of_wellFormed _
theorem start (port : Port) (payload : List Byte) : Statement (.start port payload) := of_wellFormed _
theorem stop (port : Port) (payload : List Byte) : Statement (.stop port payload) := of_wellFormed _
theorem pause (port : Port) (payload : List Byte) : Statement (.pause port payload) := of_wellFormed _
theorem resume (port : Port) (payload : List Byte) : Statement (.resume port payload) := of_wellFormed _
theorem restart (port : Port) (payload : List Byte) : Statement (.restart port payload) := of_wellFormed _
theorem syncTime (port : Port) (broadcast : Bool) (payload : List Byte) : Statement (.syncTime port broadcast payload) := of_wellFormed _
theorem timeResSet (port : Port) (payload : List Byte) : Statement (.timeResSet port payload) := of_wellFormed _
theorem scanSet (port : Port) (payload : List Byte) : Statement (.scanSet port payload) := of_wellFormed _
theorem channelSet (port : Port) (payload : List Byte) : Statement (.channelSet port payload) := of_wellFormed _
theorem channelEnable (port : Port) (payload : List Byte) : Statement (.channelEnable port payload) := of_wellFormed _
theorem channelGet (port : Port) (payload : List Byte) : Statement (.channelGet port payload) := of_wellFormed _
theorem channelStatus (port : Port) (payload : List Byte) : Statement (.channelStatus port payload) := of_wellFormed _
theorem curveSet (port : Port) (payload : List Byte) : Statement (.curveSet port payload) := of_wellFormed _
theorem curveGet (port : Port) (payload : List Byte) : Statement (.curveGet port payload) := of_wellFormed _
theorem cardSet (port : Port) (payload : List Byte) : Statement (.cardSet port payload) := of_wellFormed _
theorem cardStatus (port : Port) (payload : List Byte) : Statement (.cardStatus port payload) := of_wellFormed _
theorem passSet (port : Port) (payload : List Byte) : Statement (.passSet port payload) := of_wellFormed _
theorem cellBind (port : Port) (payload : List Byte) : Statement (.cellBind port payload) := of_wellFormed _
theorem cellGet (port : Port) (payload : List Byte) : Statement (.cellGet port payload) := of_wellFormed _
theorem zoneSet (port : Port) (payload : List Byte) : Statement (.zoneSet port payload) := of_wellFormed _
theorem zoneGet (port : Port) (payload : List Byte) : Statement (.zoneGet port payload) := of_wellFormed _
theorem holdPass (port : Port) (payload : List Byte) : Statement (.holdPass port payload) := of_wellFormed _
theorem releasePass (port : Port) (payload : List Byte) : Statement (.releasePass port payload) := of_wellFormed _
theorem clearPeaks (port : Port) (payload : List Byte) : Statement (.clearPeaks port payload) := of_wellFormed _
theorem mapRead (port : Port) (payload : List Byte) : Statement (.mapRead port payload) := of_wellFormed _
theorem passSummary (port : Port) (payload : List Byte) : Statement (.passSummary port payload) := of_wellFormed _
theorem trendSet (port : Port) (payload : List Byte) : Statement (.trendSet port payload) := of_wellFormed _
theorem trendRead (port : Port) (payload : List Byte) : Statement (.trendRead port payload) := of_wellFormed _
theorem logRead (port : Port) (payload : List Byte) : Statement (.logRead port payload) := of_wellFormed _
theorem logClear (port : Port) (payload : List Byte) : Statement (.logClear port payload) := of_wellFormed _
theorem noticeTake (port : Port) (payload : List Byte) : Statement (.noticeTake port payload) := of_wellFormed _
theorem noticeMaskSet (port : Port) (payload : List Byte) : Statement (.noticeMaskSet port payload) := of_wellFormed _
theorem attentionSet (port : Port) (payload : List Byte) : Statement (.attentionSet port payload) := of_wellFormed _
theorem permitSet (port : Port) (payload : List Byte) : Statement (.permitSet port payload) := of_wellFormed _
theorem unknownKindRequest (port : Port) (kind : Byte) (payload : List Byte) : Statement (.unknownKindRequest port kind payload) := of_wellFormed _
theorem frameIgnored (port : Port) : Statement (.frameIgnored port) := of_wellFormed _
theorem frameDamaged (port : Port) : Statement (.frameDamaged port) := of_wellFormed _
theorem frameGapTimeout (port : Port) : Statement (.frameGapTimeout port) := of_wellFormed _
theorem replyEnd (port : Port) : Statement (.replyEnd port) := of_wellFormed _
theorem conversionAnswer (sound : Bool) (card : Fin 6) (input : Fin 16) (emf : Int) (burnout : Bool) : Statement (.conversionAnswer sound card input emf burnout) := of_wellFormed _
theorem coldJunctionAnswer (sound : Bool) (card : Fin 6) (temperature : Int) : Statement (.coldJunctionAnswer sound card temperature) := of_wellFormed _
theorem answerPeriodExpiry : Statement (.answerPeriodExpiry) := of_wellFormed _
theorem scanIntervalTimerExpiry : Statement (.scanIntervalTimerExpiry) := of_wellFormed _
theorem timeTagPeriodExpiry : Statement (.timeTagPeriodExpiry) := of_wellFormed _
theorem publication : Statement (.publication) := of_wellFormed _
theorem byteReceived (port : Port) (byte : Byte) : Statement (.byteReceived port byte) := of_wellFormed _
theorem powerLoss : Statement (.powerLoss) := of_wellFormed _

end Sys2Proof.Laws.FitsFrame
end

