-- ==== Sys2Proof/Laws/Ports.lean ====
section
/-! SUPPORT. The state of a port is its own: what reading and writing it does, and no owner of a request reads or writes it. -/

namespace Sys2Proof.Machine

@[simp] theorem State.port_setPort_self (s : State) (p : Port) (q : PortState) :
    (s.setPort p q).port p = q := by cases p <;> rfl

theorem State.port_setPort_ne (s : State) {p r : Port} (q : PortState) (h : p ≠ r) :
    (s.setPort p q).port r = s.port r := by
  cases p <;> cases r <;> first | rfl | exact absurd rfl h

@[simp] theorem State.setPort_setPort (s : State) (p : Port) (q r : PortState) :
    (s.setPort p q).setPort p r = s.setPort p r := by cases p <;> rfl

@[simp] theorem State.setPort_port (s : State) (p : Port) : s.setPort p (s.port p) = s := by
  cases p <;> rfl

@[simp] theorem State.setPort_permitted (s : State) (p : Port) (q : PortState) (k : RequestKind) :
    (s.setPort p q).link.permitted k = s.link.permitted k := by cases p <;> rfl

@[simp] theorem State.setPort_stationAddress (s : State) (p : Port) (q : PortState) :
    (s.setPort p q).link.stationAddress = s.link.stationAddress := by cases p <;> rfl

/-! ### The events of a scan's open -/

variable (s : State) (p : Port) (q : PortState)

theorem State.setPort_imageArrives (i : ScanImage) :
    (s.setPort p q).imageArrives i = (s.imageArrives i).setPort p q := by
  unfold State.imageArrives
  simp only [State.setPort_map]
  split <;> cases p <;> rfl

theorem State.setPort_sendFor (c : ChannelNo) : (s.setPort p q).sendFor c = (s.sendFor c).setPort p q := by
  unfold State.sendFor
  simp only [State.setPort_input]
  split
  · cases p <;> rfl
  · rfl

theorem State.setPort_openScan : (s.setPort p q).openScan = s.openScan.setPort p q := by
  unfold State.openScan
  simp only [State.setPort_input, State.setPort_op]
  cases p <;> rfl

theorem State.setPort_deliverImage : (s.setPort p q).deliverImage = s.deliverImage.setPort p q := by
  unfold State.deliverImage
  simp only [State.setPort_input]
  split
  · rw [← State.setPort_imageArrives]
    cases p <;> rfl
  · rfl

theorem State.setPort_beginScan : (s.setPort p q).beginScan = s.beginScan.setPort p q := by
  unfold State.beginScan
  dsimp only
  rw [State.setPort_openScan]
  simp only [State.setPort_input]
  split
  · exact State.setPort_deliverImage _ _ _
  · exact State.setPort_sendFor _ _ _ _

theorem State.setPort_resetRun : (s.setPort p q).resetRun = s.resetRun.setPort p q := by
  unfold State.resetRun
  simp only [State.setPort_input, State.setPort_map, State.setPort_trend]
  cases p <;> rfl

/-! ### The owners -/

/-- An answer and a state, with a port's state replaced. -/
def withPort (x : Answer × State) : Answer × State := (x.1, x.2.setPort p q)

variable (pl : List Byte)

theorem setPort_serveStart : serveStart (s.setPort p q) = withPort p q (serveStart s) := by
  unfold serveStart
  simp only [State.setPort_op, State.setPort_input]
  split
  · rfl
  · split
    · rfl
    · have h : (s.setPort p q).resetRun.setOpState .running
          = (s.resetRun.setOpState .running).setPort p q := by
        rw [State.setPort_resetRun]
        cases p <;> rfl
      rw [h, State.setPort_beginScan]
      simp only [answer, withPort]

theorem setPort_serveStop : serveStop pl (s.setPort p q) = withPort p q (serveStop pl s) := by
  unfold serveStop stopRefusal
  simp only [State.setPort_op, State.setPort_map]
  split
  · rfl
  · unfold State.abandonMap
    cases p <;> rfl

theorem setPort_servePause : servePause pl (s.setPort p q) = withPort p q (servePause pl s) := by
  unfold servePause stopRefusal
  simp only [State.setPort_op, State.setPort_map]
  split
  · rfl
  · cases p <;> rfl

theorem setPort_serveResume : serveResume (s.setPort p q) = withPort p q (serveResume s) := by
  unfold serveResume
  rw [State.setPort_op]
  split
  · rfl
  · simp only [answer, withPort, Prod.mk.injEq, true_and]
    rw [← State.setPort_beginScan]
    cases p <;> rfl

theorem setPort_serveRestart : serveRestart pl (s.setPort p q) = withPort p q (serveRestart pl s) := by
  unfold serveRestart stopRefusal
  simp only [State.setPort_map]
  split
  · rfl
  · have h1 : (s.setPort p q).abortScan.abandonMap = s.abortScan.abandonMap.setPort p q := by
      unfold State.abandonMap
      cases p <;> rfl
    have h2 (t : State) : (t.setPort p q).restartRest.setOpState .stopped
        = (t.restartRest.setOpState .stopped).setPort p q := by cases p <;> rfl
    rw [h1, State.setPort_resetRun, h2]
    rfl

theorem setPort_serveSyncTime : serveSyncTime pl (s.setPort p q) = withPort p q (serveSyncTime pl s) := by
  unfold serveSyncTime
  (repeat' split) <;> cases p <;> rfl

theorem setPort_serveTimeResSet : serveTimeResSet pl (s.setPort p q) = withPort p q (serveTimeResSet pl s) := by
  unfold serveTimeResSet
  (repeat' split) <;> cases p <;> rfl

theorem setPort_serveScanSet : serveScanSet pl (s.setPort p q) = withPort p q (serveScanSet pl s) := by
  unfold serveScanSet
  (repeat' split) <;> cases p <;> rfl

theorem setPort_serveChannelSet : serveChannelSet pl (s.setPort p q) = withPort p q (serveChannelSet pl s) := by
  unfold serveChannelSet
  simp only [State.setPort_op, State.setPort_input]
  (repeat' split) <;> cases p <;> rfl

theorem setPort_serveChannelEnable : serveChannelEnable pl (s.setPort p q) = withPort p q (serveChannelEnable pl s) := by
  unfold serveChannelEnable
  simp only [State.setPort_input]
  (repeat' split) <;> cases p <;> rfl

theorem setPort_serveChannelGet : serveChannelGet pl (s.setPort p q) = withPort p q (serveChannelGet pl s) := by
  unfold serveChannelGet
  simp only [State.setPort_input]
  (repeat' split) <;> cases p <;> rfl

theorem setPort_serveChannelStatus : serveChannelStatus pl (s.setPort p q) = withPort p q (serveChannelStatus pl s) := by
  unfold serveChannelStatus
  simp only [State.setPort_input]
  (repeat' split) <;> cases p <;> rfl

theorem setPort_serveCurveSet : serveCurveSet pl (s.setPort p q) = withPort p q (serveCurveSet pl s) := by
  unfold serveCurveSet
  simp only [State.setPort_op, State.setPort_input]
  (repeat' split) <;> cases p <;> rfl

theorem setPort_serveCurveGet : serveCurveGet pl (s.setPort p q) = withPort p q (serveCurveGet pl s) := by
  unfold serveCurveGet
  simp only [State.setPort_input]
  (repeat' split) <;> cases p <;> rfl

theorem setPort_serveCardSet : serveCardSet pl (s.setPort p q) = withPort p q (serveCardSet pl s) := by
  unfold serveCardSet
  simp only [State.setPort_op]
  (repeat' split) <;> cases p <;> rfl

theorem setPort_serveCardStatus : serveCardStatus pl (s.setPort p q) = withPort p q (serveCardStatus pl s) := by
  unfold serveCardStatus
  simp only [State.setPort_input]
  (repeat' split) <;> cases p <;> rfl

theorem setPort_servePassSet : servePassSet pl (s.setPort p q) = withPort p q (servePassSet pl s) := by
  unfold servePassSet
  simp only [State.setPort_op, State.setPort_map]
  (repeat' split) <;> cases p <;> rfl

theorem setPort_serveCellBind : serveCellBind pl (s.setPort p q) = withPort p q (serveCellBind pl s) := by
  unfold serveCellBind
  simp only [State.setPort_op, State.setPort_map]
  (repeat' split) <;> cases p <;> rfl

theorem setPort_serveCellGet : serveCellGet pl (s.setPort p q) = withPort p q (serveCellGet pl s) := by
  unfold serveCellGet
  simp only [State.setPort_map]
  (repeat' split) <;> cases p <;> rfl

theorem setPort_serveZoneSet : serveZoneSet pl (s.setPort p q) = withPort p q (serveZoneSet pl s) := by
  unfold serveZoneSet
  simp only [State.setPort_map]
  (repeat' split) <;> cases p <;> rfl

theorem setPort_serveZoneGet : serveZoneGet pl (s.setPort p q) = withPort p q (serveZoneGet pl s) := by
  unfold serveZoneGet
  simp only [State.setPort_map]
  (repeat' split) <;> cases p <;> rfl

theorem setPort_serveClearPeaks : serveClearPeaks pl (s.setPort p q) = withPort p q (serveClearPeaks pl s) := by
  unfold serveClearPeaks
  simp only [State.setPort_map]
  (repeat' split) <;> cases p <;> rfl

theorem setPort_serveMapRead : serveMapRead pl (s.setPort p q) = withPort p q (serveMapRead pl s) := by
  unfold serveMapRead
  simp only [State.setPort_map]
  (repeat' split) <;> cases p <;> rfl

theorem setPort_servePassSummary : servePassSummary pl (s.setPort p q) = withPort p q (servePassSummary pl s) := by
  unfold servePassSummary
  simp only [State.setPort_map]
  (repeat' split) <;> cases p <;> rfl

theorem setPort_serveTrendSet : serveTrendSet pl (s.setPort p q) = withPort p q (serveTrendSet pl s) := by
  unfold serveTrendSet
  simp only [State.setPort_op, State.setPort_trend]
  (repeat' split) <;> simp only [answer, withPort] <;> cases p <;> rfl

theorem setPort_serveTrendRead : serveTrendRead pl (s.setPort p q) = withPort p q (serveTrendRead pl s) := by
  unfold serveTrendRead
  simp only [State.setPort_trend]
  (repeat' split) <;> cases p <;> rfl

theorem setPort_serveLogRead : serveLogRead pl (s.setPort p q) = withPort p q (serveLogRead pl s) := by
  unfold serveLogRead
  simp only [State.setPort_log]
  (repeat' split) <;> cases p <;> rfl

theorem setPort_serveNoticeMaskSet : serveNoticeMaskSet pl (s.setPort p q) = withPort p q (serveNoticeMaskSet pl s) := by
  unfold serveNoticeMaskSet
  simp only [State.setPort_notices]
  (repeat' split) <;> cases p <;> rfl

theorem setPort_serveAttentionSet : serveAttentionSet pl (s.setPort p q) = withPort p q (serveAttentionSet pl s) := by
  unfold serveAttentionSet
  simp only [State.setPort_notices]
  (repeat' split) <;> cases p <;> rfl

theorem setPort_servePermitSet : servePermitSet pl (s.setPort p q) = withPort p q (servePermitSet pl s) := by
  unfold servePermitSet
  (repeat' split) <;> cases p <;> rfl

theorem setPort_writeHold (b : Bool) : writeHold b pl (s.setPort p q) = withPort p q (writeHold b pl s) := by
  unfold writeHold
  simp only [State.setPort_map]
  (repeat' split) <;> cases p <;> rfl

/-- No owner of a request reads or writes the state of a port. -/
theorem serveKind_setPort (k : RequestKind) (r : Port) :
    serveKind k r pl (s.setPort p q) = withPort p q (serveKind k r pl s) := by
  cases k <;> simp only [serveKind]
  case identify => cases p <;> rfl
  case status => cases p <;> rfl
  case conditionsTake => cases p <;> rfl
  case logClear =>
    unfold serveLogClear
    simp only [State.setPort_log, answer, withPort]
    cases p <;> rfl
  case noticeTake => cases p <;> rfl
  case start => exact setPort_serveStart s p q
  case resume => exact setPort_serveResume s p q
  case holdPass => exact setPort_writeHold s p q pl true
  case releasePass => exact setPort_writeHold s p q pl false
  case stop => exact setPort_serveStop s p q pl
  case pause => exact setPort_servePause s p q pl
  case restart => exact setPort_serveRestart s p q pl
  case syncTime => exact setPort_serveSyncTime s p q pl
  case timeResSet => exact setPort_serveTimeResSet s p q pl
  case scanSet => exact setPort_serveScanSet s p q pl
  case channelSet => exact setPort_serveChannelSet s p q pl
  case channelEnable => exact setPort_serveChannelEnable s p q pl
  case channelGet => exact setPort_serveChannelGet s p q pl
  case channelStatus => exact setPort_serveChannelStatus s p q pl
  case curveSet => exact setPort_serveCurveSet s p q pl
  case curveGet => exact setPort_serveCurveGet s p q pl
  case cardSet => exact setPort_serveCardSet s p q pl
  case cardStatus => exact setPort_serveCardStatus s p q pl
  case passSet => exact setPort_servePassSet s p q pl
  case cellBind => exact setPort_serveCellBind s p q pl
  case cellGet => exact setPort_serveCellGet s p q pl
  case zoneSet => exact setPort_serveZoneSet s p q pl
  case zoneGet => exact setPort_serveZoneGet s p q pl
  case clearPeaks => exact setPort_serveClearPeaks s p q pl
  case mapRead => exact setPort_serveMapRead s p q pl
  case passSummary => exact setPort_servePassSummary s p q pl
  case trendSet => exact setPort_serveTrendSet s p q pl
  case trendRead => exact setPort_serveTrendRead s p q pl
  case logRead => exact setPort_serveLogRead s p q pl
  case noticeMaskSet => exact setPort_serveNoticeMaskSet s p q pl
  case attentionSet => exact setPort_serveAttentionSet s p q pl
  case permitSet => exact setPort_servePermitSet s p q pl

end Sys2Proof.Machine
end

