-- ==== Sys2Proof/Laws/Requests.lean ====
section
/-! SUPPORT. Requests and frames: what exec is on a request row, and what is closed under every step. -/

namespace Sys2Proof.Machine

/-- A request row is the taking of a request of its kind. -/
theorem exec_command (k : RequestKind) (p : Port) (pl : List Byte) (s : State) :
    exec (k.command p pl) s = .next (s.takeRequest p k pl (serveKind k p pl)) := by
  cases k <;> rfl

/-- Every command is a request row of one of the 37 kinds, or one of the other rows. -/
theorem command_cases (c : Instr) :
    (∃ k p pl, c = RequestKind.command k p pl) ∨ (∃ p pl, c = .syncTime p true pl)
    ∨ c.isSupplyRow = true ∨ (∃ p kind pl, c = .unknownKindRequest p kind pl) ∨ (∃ p, c = .frameIgnored p)
    ∨ (∃ p, c = .frameDamaged p) ∨ (∃ p, c = .frameGapTimeout p) ∨ (∃ p, c = .replyEnd p)
    ∨ (∃ sound card input emf burnout, c = .conversionAnswer sound card input emf burnout)
    ∨ (∃ sound card t, c = .coldJunctionAnswer sound card t) ∨ c = .answerPeriodExpiry
    ∨ c = .scanIntervalTimerExpiry ∨ c = .timeTagPeriodExpiry ∨ c = .publication
    ∨ ∃ p b, c = .byteReceived p b := by
  cases c
  case syncTime p b pl =>
    cases b
    · exact .inl ⟨.syncTime, p, pl, rfl⟩
    · exact .inr (.inl ⟨p, pl, rfl⟩)
  case identify p pl => exact .inl ⟨.identify, p, pl, rfl⟩
  case status p pl => exact .inl ⟨.status, p, pl, rfl⟩
  case conditionsTake p pl => exact .inl ⟨.conditionsTake, p, pl, rfl⟩
  case start p pl => exact .inl ⟨.start, p, pl, rfl⟩
  case stop p pl => exact .inl ⟨.stop, p, pl, rfl⟩
  case pause p pl => exact .inl ⟨.pause, p, pl, rfl⟩
  case resume p pl => exact .inl ⟨.resume, p, pl, rfl⟩
  case restart p pl => exact .inl ⟨.restart, p, pl, rfl⟩
  case timeResSet p pl => exact .inl ⟨.timeResSet, p, pl, rfl⟩
  case scanSet p pl => exact .inl ⟨.scanSet, p, pl, rfl⟩
  case channelSet p pl => exact .inl ⟨.channelSet, p, pl, rfl⟩
  case channelEnable p pl => exact .inl ⟨.channelEnable, p, pl, rfl⟩
  case channelGet p pl => exact .inl ⟨.channelGet, p, pl, rfl⟩
  case channelStatus p pl => exact .inl ⟨.channelStatus, p, pl, rfl⟩
  case curveSet p pl => exact .inl ⟨.curveSet, p, pl, rfl⟩
  case curveGet p pl => exact .inl ⟨.curveGet, p, pl, rfl⟩
  case cardSet p pl => exact .inl ⟨.cardSet, p, pl, rfl⟩
  case cardStatus p pl => exact .inl ⟨.cardStatus, p, pl, rfl⟩
  case passSet p pl => exact .inl ⟨.passSet, p, pl, rfl⟩
  case cellBind p pl => exact .inl ⟨.cellBind, p, pl, rfl⟩
  case cellGet p pl => exact .inl ⟨.cellGet, p, pl, rfl⟩
  case zoneSet p pl => exact .inl ⟨.zoneSet, p, pl, rfl⟩
  case zoneGet p pl => exact .inl ⟨.zoneGet, p, pl, rfl⟩
  case holdPass p pl => exact .inl ⟨.holdPass, p, pl, rfl⟩
  case releasePass p pl => exact .inl ⟨.releasePass, p, pl, rfl⟩
  case clearPeaks p pl => exact .inl ⟨.clearPeaks, p, pl, rfl⟩
  case mapRead p pl => exact .inl ⟨.mapRead, p, pl, rfl⟩
  case passSummary p pl => exact .inl ⟨.passSummary, p, pl, rfl⟩
  case trendSet p pl => exact .inl ⟨.trendSet, p, pl, rfl⟩
  case trendRead p pl => exact .inl ⟨.trendRead, p, pl, rfl⟩
  case logRead p pl => exact .inl ⟨.logRead, p, pl, rfl⟩
  case logClear p pl => exact .inl ⟨.logClear, p, pl, rfl⟩
  case noticeTake p pl => exact .inl ⟨.noticeTake, p, pl, rfl⟩
  case noticeMaskSet p pl => exact .inl ⟨.noticeMaskSet, p, pl, rfl⟩
  case attentionSet p pl => exact .inl ⟨.attentionSet, p, pl, rfl⟩
  case permitSet p pl => exact .inl ⟨.permitSet, p, pl, rfl⟩
  all_goals simp [Instr.isSupplyRow]

/-- The taking of a request, once and for all: discarded, refused with PERMIT or FORMAT, or answered by
its owner with MAINT_WRITE noted. -/
theorem takeRequest_cases (s : State) (p : Port) (k : RequestKind) (pl : List Byte)
    (serve : State → Answer × State) :
    s.takeRequest p k pl serve = s ∧ s.listening p = false
    ∨ s.listening p = true ∧
      ((p = .maintenance ∧ s.link.permitted k = false
          ∧ s.takeRequest p k pl serve = s.sendReply p k.code ⟨.permit, []⟩)
        ∨ lengthOk k pl.length = false ∧ s.takeRequest p k pl serve = s.sendReply p k.code ⟨.format, []⟩
        ∨ (p = .control ∨ s.link.permitted k = true) ∧ lengthOk k pl.length = true
          ∧ s.takeRequest p k pl serve =
            ((serve s).2.noteWrite p k (serve s).1.code).sendReply p k.code (serve s).1) := by
  unfold State.takeRequest
  cases h1 : s.listening p <;> cases p <;> cases h2 : s.link.permitted k <;>
    cases h3 : lengthOk k pl.length <;> simp

/-- The taking of a request that passes all three checks. -/
theorem takeRequest_taken {s : State} {p : Port} {k : RequestKind} {pl : List Byte} (h : s.takes p k)
    (hl : lengthOk k pl.length = true) (serve : State → Answer × State) :
    s.takeRequest p k pl serve = (serve s).2.replied p k (serve s).1.code (serve s).1.data := by
  obtain ⟨h1, h2, h3⟩ := h
  have hp : (decide (p = .maintenance) && !s.link.permitted k) = false := by
    rcases h3 with rfl | h3 <;> simp_all
  simp [State.takeRequest, State.listening, h1, h2, hl, hp, State.replied]

/-- What exec is on a request that passes all three checks: the reply its owner's answer makes. -/
theorem exec_taken {s : State} {p : Port} {k : RequestKind} {pl : List Byte} (h : s.takes p k)
    (hl : lengthOk k pl.length = true) :
    exec (k.command p pl) s =
      .next ((serveKind k p pl s).2.replied p k (serveKind k p pl s).1.code (serveKind k p pl s).1.data) := by
  rw [exec_command, takeRequest_taken h hl]

/-- A refusal is an answer that is not DONE: it notes no MAINT_WRITE. -/
theorem replied_refused (s : State) (p : Port) (k : RequestKind) {code : ResultCode} (h : code ≠ .done) :
    s.replied p k code [] = s.refused p k code := by
  simp [State.replied, State.refused, State.noteWrite, h]

/-- `P` is kept by everything a step consists of, a publication apart. -/
structure StepClosed (P : State → Prop) : Prop extends OwnerClosed P where
  queue : ∀ s q, P s → P { s with pending := q }
  port : ∀ s p q, P s → P (s.setPort p q)
  frameError : ∀ s, P s → P s.setFrameError
  maintWrite : ∀ s, P s → P s.setMaintWrite
  supply : ∀ s powered pin, P s → P { s with powered := powered, resetPin := pin }
  reset : ∀ straps powerOn draws pending, P (State.afterReset straps powerOn draws pending)

variable {P : State → Prop}

namespace StepClosed

theorem sendReply (h : StepClosed P) (s : State) (p : Port) (kind : Byte) (a : Answer) (hs : P s) :
    P (s.sendReply p kind a) := h.port _ _ _ hs

theorem noteWrite (h : StepClosed P) (s : State) (p : Port) (k : RequestKind) (code : ResultCode)
    (hs : P s) : P (s.noteWrite p k code) := by
  unfold State.noteWrite
  split
  · exact h.maintWrite _ hs
  · exact hs

theorem takeRequest (h : StepClosed P) (s : State) (p : Port) (k : RequestKind) (pl : List Byte) (hs : P s) :
    P (s.takeRequest p k pl (serveKind k p pl)) := by
  rcases takeRequest_cases s p k pl (serveKind k p pl) with ⟨e, -⟩ | ⟨-, ⟨-, -, e⟩ | ⟨-, e⟩ | ⟨-, -, e⟩⟩
  · rw [e]; exact hs
  · rw [e]; exact h.sendReply _ _ _ _ hs
  · rw [e]; exact h.sendReply _ _ _ _ hs
  · rw [e]; exact h.sendReply _ _ _ _ (h.noteWrite _ _ _ _ (h.toOwnerClosed.serve _ _ hs _ _))

theorem takeKind (h : StepClosed P) (s : State) (p : Port) (kind : Byte) (pl : List Byte) (hs : P s) :
    P (s.takeKind p kind pl) := by
  unfold State.takeKind
  split
  · exact h.takeRequest _ _ _ _ hs
  · split
    · exact h.sendReply _ _ _ _ hs
    · exact hs

theorem broadcastSync (h : StepClosed P) (s : State) (p : Port) (pl : List Byte) (hs : P s) :
    P (s.broadcastSync p pl) := by
  unfold State.broadcastSync
  split
  · exact hs
  · split
    · exact h.port _ _ _ hs
    · split
      · exact h.port _ _ _ (h.noteWrite _ _ _ _ (h.timeTag _ _ hs))
      · exact h.port _ _ _ hs

theorem ignoreFrame (h : StepClosed P) (s : State) (p : Port) (hs : P s) : P (s.ignoreFrame p) := by
  unfold State.ignoreFrame
  split
  · exact h.port _ _ _ hs
  · exact hs

theorem damageFrame (h : StepClosed P) (s : State) (p : Port) (hs : P s) : P (s.damageFrame p) := by
  unfold State.damageFrame
  split
  · exact h.frameError _ (h.port _ _ _ hs)
  · exact hs

theorem receiveByte (h : StepClosed P) (s : State) (p : Port) (b : Byte) (hs : P s) :
    P (s.receiveByte p b) := by
  unfold State.receiveByte
  split
  · split
    · split
      · exact h.port _ _ _ hs
      · exact hs
    · unfold State.assembled
      split
      · exact h.damageFrame _ _ hs
      · split
        · split
          · unfold State.handleFrame
            split
            · exact h.takeKind _ _ _ _ hs
            · split
              · exact h.broadcastSync _ _ _ hs
              · exact h.ignoreFrame _ _ hs
          · exact h.damageFrame _ _ hs
        · exact h.port _ _ _ hs
  · exact hs

/-- What a command consists of, the command keeps; a publication is asked for at its state. -/
theorem exec (h : StepClosed P) (c : Instr) (s t : State) (hs : P s) (hp : P s → P s.publish)
    (ht : exec c s = .next t) : P t := by
  have pick : ∀ (b : Bool) (x y : State), P x → P y → P (if b then x else y) := by
    intro b x y hx hy
    cases b
    · exact hy
    · exact hx
  obtain ⟨k, p, pl, rfl⟩ | ⟨p, pl, rfl⟩ | hc | ⟨p, kind, pl, rfl⟩ | ⟨p, rfl⟩ | ⟨p, rfl⟩ | ⟨p, rfl⟩ | ⟨p, rfl⟩
    | ⟨sound, card, input, emf, burnout, rfl⟩ | ⟨sound, card, temp, rfl⟩ | rfl | rfl | rfl | rfl | ⟨p, b, rfl⟩
    := command_cases c
  · rw [exec_command] at ht
    cases ht
    exact h.takeRequest _ _ _ _ hs
  · cases ht
    exact h.broadcastSync _ _ _ hs
  · cases c <;> simp only [Instr.isSupplyRow, Bool.false_eq_true] at hc
    case powerOn straps => cases ht; exact h.supply _ _ _ (h.reset _ _ _ _)
    case resetPinAssert =>
      cases ht
      exact h.supply ((s.setPort .control s.link.control.dropFrame).setPort .maintenance
        s.link.maintenance.dropFrame) s.powered true (h.port _ .maintenance _ (h.port _ .control _ hs))
    case resetPinRelease straps =>
      cases ht
      exact pick _ _ _ (h.reset _ _ _ _) (h.supply _ _ _ hs)
    case powerLoss =>
      cases ht
      exact h.supply ((s.setPort .control PortState.reset).setPort .maintenance PortState.reset) false
        s.resetPin (h.port _ .maintenance _ (h.port _ .control _ hs))
  · cases ht
    exact h.takeKind _ _ _ _ hs
  · cases ht
    exact h.ignoreFrame _ _ hs
  · cases ht
    exact h.damageFrame _ _ hs
  · cases ht
    unfold State.gapTimeout
    split
    · exact hs
    · exact h.damageFrame _ _ hs
  · cases ht
    exact pick _ _ _ (h.port _ _ _ hs) hs
  · cases ht
    exact pick _ _ _ (h.toEventClosed.conversionArrives _ _ _ _ _ _ hs) hs
  · cases ht
    exact pick _ _ _ (h.toEventClosed.coldJunctionArrives _ _ _ _ hs) hs
  · cases ht
    exact pick _ _ _ (h.toEventClosed.answerPeriodExpires _ hs) hs
  · cases ht
    exact pick _ _ _ (h.toEventClosed.timerExpires _ hs) hs
  · cases ht
    refine pick _ _ _ ?_ hs
    unfold State.timeTagPeriod
    dsimp only
    split
    · exact h.emit _ _ (h.timeTag _ _ hs)
    · exact h.timeTag _ _ hs
  · cases ht
    exact pick _ _ _ (hp hs) hs
  · cases ht
    exact h.receiveByte _ _ _ hs

/-- What a step consists of, a step and an idle moment keep; a publication is asked for at its state. -/
theorem step (h : StepClosed P) (s t : State) (hs : P s)
    (hp : ∀ rest, P { s with pending := rest } → P (State.publish { s with pending := rest }))
    (ht : step s = .next t) : P t := by
  unfold Machine.step at ht
  split at ht
  · cases ht; exact h.idle _ hs
  · exact h.exec _ _ _ (h.queue _ _ hs) (hp _) ht

end StepClosed

end Sys2Proof.Machine
end

