-- ==== Sys2Proof/Laws/Scan.lean ====
section
/-! SUPPORT. How an open scan goes on: the next request, and what a reading does. -/

namespace Sys2Proof.Machine

variable {s : State} {scan : OpenScan} {c : ChannelNo} {rest : List ChannelNo}

/-- With no request outstanding, the request for a channel of the open scan is sent. -/
theorem State.sendFor_scanning (c : ChannelNo) (h : s.input.scan = .scanning scan)
    (ho : s.input.outstanding = none) :
    s.sendFor c = s.setOutstanding (some ⟨requestFor scan s.input.channels[c], false⟩) := by
  unfold State.sendFor requestFor
  rw [h, ho]

/-- An open scan whose next channel's card is not lost in the scan goes on with that channel's request. -/
theorem State.goOn_next (h : s.input.scan = .scanning scan) (hr : scan.remaining = c :: rest)
    (ho : s.input.outstanding = none)
    (hl : s.input.cards[s.input.channels[c].card].lostInScan = false) :
    s.goOn = s.setOutstanding (some ⟨requestFor scan s.input.channels[c], false⟩) := by
  unfold State.goOn
  rw [h]
  dsimp only
  rw [hr]
  unfold State.advance
  rw [hl]
  exact s.sendFor_scanning c h ho

/-- An open scan with every reading made goes on by closing. -/
theorem State.goOn_last (h : s.input.scan = .scanning scan) (hr : scan.remaining = []) :
    s.goOn = s.closeScan := by
  unfold State.goOn
  rw [h]
  dsimp only
  rw [hr]
  rfl

/-- Where no scan is open there is nothing to go on with. -/
theorem State.goOn_closed (h : s.input.scan = .idle ∨ s.input.scan = .waiting) : s.goOn = s := by
  unfold State.goOn
  rcases h with h | h <;> simp [h]

/-- A reading changes the Input Processor, the log, the Notice Unit and what is in transit, and nothing else. -/
theorem State.giveReading_frame (s : State) (c : ChannelNo) (r : Reading) :
    s.giveReading c r = { s with
      input := (s.giveReading c r).input, log := (s.giveReading c r).log
      notices := (s.giveReading c r).notices, transit := (s.giveReading c r).transit
      draws := (s.giveReading c r).draws } := by
  apply State.eq_of_fields <;> simp

/-- A reading leaves every channel its routing. -/
theorem State.giveReading_card (s : State) (c d : ChannelNo) (r : Reading) :
    (s.giveReading c r).input.channels[d].card = s.input.channels[d].card := by
  rw [State.giveReading_input_channels]
  simp only [Fin.getElem_fin, upd_get]
  split <;> rfl

/-- An open scan that goes on gives the channels of lost cards at the head of its list a MISSING reading
each, in order, and then has the next channel's request sent. -/
theorem State.advance_missed (missed : List ChannelNo) (d : ChannelNo) (rest : List ChannelNo) :
    ∀ s : State, (∀ x ∈ missed, s.input.cards[s.input.channels[x].card].lostInScan = true) →
      s.input.cards[s.input.channels[d].card].lostInScan = false →
      State.advance (missed ++ d :: rest) s =
        (missed.foldl (fun u x => u.giveReading x (badReading .missing)) s).sendFor d := by
  induction missed with
  | nil =>
    intro s _ h
    unfold State.advance
    simp only [List.nil_append]
    rw [h]
    rfl
  | cons x xs ih =>
    intro s h hd
    unfold State.advance
    simp only [List.cons_append]
    rw [h x (by simp)]
    simp only [if_true, List.foldl_cons]
    refine ih _ (fun y hy => ?_) ?_
    · have hc := State.giveReading_card s x y (badReading .missing)
      have hl := h y (List.mem_cons_of_mem _ hy)
      simp only [Fin.getElem_fin, State.giveReading_input_cards] at hc hl ⊢
      simp only [hc, hl]
    · have hc := State.giveReading_card s x d (badReading .missing)
      simp only [Fin.getElem_fin, State.giveReading_input_cards] at hc hd ⊢
      simp only [hc, hd]

end Sys2Proof.Machine
end

