-- ==== Sys2Proof/Tests/Slice0.lean ====
section
/-! SUPPORT. Tests: the checks on commands, the worked examples of the spec, and for each statement a state that meets its hypotheses. -/

namespace Sys2Proof.Tests

-- One test after another: their kernel evaluations side by side ask for more threads than the memory allows.
set_option Elab.async false

open Sys2Proof.Machine

/-! ### Which commands can occur -/

theorem test_wellFormed_accepts : (Instr.powerOn ⟨1, .b9600⟩).wellFormed = true := by decide

theorem test_wellFormed_station_address_zero : (Instr.powerOn ⟨0, .b9600⟩).wellFormed = false := by decide

theorem test_wellFormed_release_address_zero : (Instr.resetPinRelease ⟨0, .b115200⟩).wellFormed = false := by
  decide

theorem test_wellFormed_payload_too_long :
    (Instr.curveSet .control (List.replicate 241 0)).wellFormed = false := by decide +kernel

theorem test_wellFormed_known_kind : (Instr.unknownKindRequest .control 0x01 []).wellFormed = false := by decide

theorem test_wellFormed_broadcast_length : (Instr.syncTime .control true [0]).wellFormed = false := by decide

theorem test_decode_gives_no_command : decodeTableWord 8 0 = none := rfl

/-! ### States for the tests -/

/-- The outcome of a command, where it is a next state. -/
def after (o : Host.Outcome State Fault Refusal) : State :=
  match o with
  | .next t => t
  | .fault _ => State.reset
  | .refused _ => State.reset

/-- A command's next state has a property. -/
def gives (c : Instr) (s : State) (p : State → Bool) : Bool :=
  match exec c s with
  | .next t => p t
  | .fault _ => false
  | .refused _ => false

/-- The reply's result code and data on a port. -/
def replyBody (s : State) (p : Port) : Option (List Byte) :=
  (s.port p).reply.map fun f => (f.drop 4).take (f.length - 6)

/-- The curve of section 3.8. -/
def curve0 : List Breakpoint :=
  [⟨-1889, -500⟩, ⟨0, 0⟩, ⟨4096, 1000⟩, ⟨8138, 2000⟩, ⟨12209, 3000⟩, ⟨16397, 4000⟩, ⟨20644, 5000⟩,
   ⟨24905, 6000⟩, ⟨29129, 7000⟩, ⟨33275, 8000⟩]

/-- The part after reset with curve set 0 loaded and the channels of the list enabled. -/
def configured (enabled : List ChannelNo) : State :=
  { State.reset with input := { State.reset.input with
      curves := upd State.reset.input.curves 0 fun _ => curve0
      channels := tab fun c => { State.reset.input.channels[c] with enabled := enabled.contains c } } }

/-- The part in an operating state. -/
def inState (x : OpState) (s : State) : State := { s with op := { s.op with state := x } }

/-- The open scan of channels 0 and 16 (cards 0 and 1) with nothing read. -/
def scan2 (asked : Bool) : OpenScan where
  number := 7
  timeTag := 100
  interval := 10
  remaining := [0, 16]
  asked := tab fun k => asked && k == 0
  readings := fill 96 none

/-- RUNNING with that scan open and its request outstanding. -/
def scanning (scan : OpenScan) (request : CardRequest) : State :=
  let s := inState .running (configured [0, 16])
  { s with
    op := { s.op with timer := some 10 }
    input := { s.input with
      scanNumber := 7, scan := .scanning scan, outstanding := some ⟨request, false⟩ } }

/-- RUNNING and WAITING for the timer. -/
def waitingState : State :=
  let s := inState .running (configured [0, 16])
  { s with op := { s.op with timer := some 10 }, input := { s.input with scan := .waiting } }

/-- An image whose readings are all DISABLED. -/
def emptyImage : ScanImage := ⟨7, 100, 10, fill 96 ⟨.disabled, none, false, false, false⟩⟩

/-- A Map Engine at work on that image. -/
def computingMap : MapEngine := MapEngine.reset.startComputation ⟨emptyImage, false⟩

/-- A trend frame of a pass and scan, with 32 stations of one quality. -/
def frame (p : PassNo) (scan : Word32) (q : Quality) : Frame where
  pass := p
  summary := { Summary.cleared 32 with scanNumber := scan }
  entries := List.replicate 32 ⟨some 100, q, .normal, ⟨false, false, false, false, false⟩⟩

/-- A queue entry of a kind and parameter. -/
def entry (k : NoticeKind) (parameter : Nat) : QueueEntry := ⟨⟨k, some parameter⟩, 1, false, 0⟩

/-- The queue of section 9.7: 4 PASS_CLOSED, 26 CHANNEL_FAILED and 2 ALARM_ENTERED entries. -/
def fullQueue : List QueueEntry :=
  (List.range 4).map (entry .passClosed) ++ (List.range 26).map (fun n => entry .channelFailed (40 + n))
    ++ [entry .alarmEntered 45, entry .alarmEntered 46]

/-- The part with that queue. -/
def queued : State := { State.reset with notices := { State.reset.notices with queue := fullQueue } }

/-- The full log of section 8.6: write position 20, oldest sequence 65500. -/
def wrappedLog : Log where
  slots := tab fun i => some ⟨65500 + BitVec.ofNat 16 ((i.val + 256 - 20) % 256),
    ⟨.bandRise, 0, 0, .cell 45, none, none, none, none, none, none⟩⟩
  writePosition := 20
  oldest := 65500
  count := 256

/-- The part with that log. -/
def logged : State := { State.reset with log := wrappedLog }

/-- A request that its owner takes, from a test that evaluates. -/
theorem takes_of {s : State} {p : Port} {k : RequestKind}
    (h : (s.operating && (s.port p).reply.isNone && (p == .control || s.link.permitted k)) = true) :
    s.takes p k := by
  simp only [Bool.and_eq_true, Bool.or_eq_true, beq_iff_eq, Option.isNone_iff_eq_none] at h
  exact ⟨h.1.1, h.1.2, h.2⟩

/-! ### The worked examples of the spec -/

/-- The channel of section 3.8. -/
def channel0 (curve : Fin 4) : ChannelEntry :=
  { ChannelEntry.default 0 with
    enabled := true, curve := curve, gain := 10020, offset := -15, lowClamp := -500, highClamp := 7500 }

/-- A card with a cold-junction temperature. -/
def cardAt (t : Int) : CardEntry := ⟨.present, false, some t, false, .valid, 250⟩

theorem test_convert_case_A :
    convert (channel0 0) curve0 (cardAt 350) 22500 false = ⟨.ok, some 5769, false, false, false⟩ := by decide

theorem test_convert_case_B :
    convert (channel0 0) curve0 (cardAt 350) 31000 false = ⟨.ok, some 7500, true, false, false⟩ := by decide

theorem test_convert_case_C :
    convert (channel0 0) curve0 (cardAt (-120)) 21000 false = ⟨.ok, some 4972, false, false, false⟩ := by decide

theorem test_convert_case_D :
    convert (channel0 0) curve0 (cardAt 350) (-3500) false = ⟨.rangeLow, some (-500), true, false, false⟩ := by
  decide

theorem test_convert_case_E :
    convert (channel0 1) curve0.tail (cardAt (-120)) 21000 false = ⟨.ok, some 4963, false, false, false⟩ := by
  decide

/-- The health of section 4.5 through scans 700 to 709. -/
theorem test_health_sequence :
    ([false, true, false, false, false, true, false, true, true, true].foldl
        (fun (m : HealthMove × List (Health × Nat × Nat)) good =>
          let n := moveHealth good m.1.health m.1.badRun m.1.goodRun
          (n, m.2 ++ [(n.health, n.badRun, n.goodRun)])) (⟨.good, 0, 0⟩, [])).2
      = [(.suspect, 1, 0), (.good, 0, 0), (.suspect, 1, 0), (.suspect, 2, 0), (.failed, 0, 0), (.failed, 0, 1),
         (.failed, 0, 0), (.failed, 0, 1), (.failed, 0, 2), (.good, 0, 0)] := by decide

/-- A working cell of section 5.11. -/
def workedCell (q : Quality) (resolved filtered : Int) (hold : Nat) (peak : Option Int) : CellState :=
  { CellState.reset with
    quality := q, resolved := some resolved, filtered := some filtered, holdCount := hold, peak := peak
    scanNumber := 4411, prevValid := q == .good }

/-- A usable reading of section 5.11. -/
def workedReading (v : Int) (cjHeld : Bool) : Reading := ⟨.ok, some v, false, cjHeld, true⟩

/-- The readings of scan 4412. -/
def workedImage : ScanImage where
  number := 4412
  timeTag := 884300
  interval := 10
  readings := tab fun c =>
    if c = 20 then workedReading 5120 true
    else if c = 21 then workedReading 5429 false
    else if c = 22 then workedReading 5431 false
    else if c = 23 then ⟨.burnout, none, false, false, false⟩
    else if c = 24 then workedReading 5611 false
    else if c = 25 then ⟨.burnout, none, false, false, false⟩
    else ⟨.disabled, none, false, false, false⟩

/-- The Map Engine of section 5.11 before the computation of scan 4412. -/
def workedMap : MapEngine :=
  { MapEngine.reset with
    passes := upd MapEngine.reset.passes 1 fun e => { e with stations := 6 }
    zones := upd MapEngine.reset.zones 0 fun z => { z with weight := 4 }
    bindings := tab fun i =>
      if i = 32 then ⟨some 20, none, .primary, true⟩
      else if i = 35 then ⟨some 21, some 22, .mean, true⟩
      else if i = 36 then ⟨some 25, none, .primary, true⟩
      else if i = 37 then ⟨some 23, some 24, .primary, true⟩
      else Binding.default
    cells := tab fun i =>
      if i = 32 then workedCell .good 5118 5110 0 (some 5140)
      else if i = 33 then workedCell .estimated 5212 5210 0 none
      else if i = 34 then workedCell .estimated 5315 5330 0 none
      else if i = 35 then workedCell .good 5426 5418 0 (some 5418)
      else if i = 36 then workedCell .held 5502 5500 2 (some 5540)
      else if i = 37 then workedCell .good 5606 5600 0 (some 5655)
      else { CellState.reset with scanNumber := 4411 } }

/-- The engine at work on scan 4412. -/
def workedComputation : MapEngine := workedMap.startComputation ⟨workedImage, false⟩

/-- What section 5.11 tables of a cell: quality, resolved, filtered, band, hold count, peak. -/
def cellRow (c : CellState) : Quality × Option Int × Option Int × Band × Nat × Option Int :=
  (c.quality, c.resolved, c.filtered, c.band, c.holdCount, c.peak)

/-- The part with the engine at work on scan 4412. -/
def workedState : State := { State.reset with map := workedComputation }

/-- The counted cells of section 1.4.1: hottest, coolest, mean. -/
theorem test_summary_statistics :
    hottest [(0, 4980), (1, 5105), (3, 5105)] = some (1, 5105)
    ∧ coolest [(0, 4980), (1, 5105), (3, 5105)] = some (0, 4980)
    ∧ meanValue [(0, 4980), (1, 5105), (3, 5105)] = some 5063 := by decide

/-- Zone 4 of section 6.8. -/
def zone4 : ZoneRecord :=
  { ZoneRecord.default 4 with
    enabled := true, passes := 2, first := 10, last := 15, watch := some 5400, alarm := some 5600
    limit := some 6000, hysteresis := 30, persistence := 3, holdAllowance := 0, weight := 16
    rateLimit := some 120 }

/-- Stage 7 of one computation of section 6.8. -/
def classified (c : CellState) (q : Quality) (f : Int) : CellState :=
  classifyCell false false zone4 Binding.default emptyImage
    { c with quality := q, resolved := some f, filtered := some f, prevFiltered := c.filtered }

/-- The columns of section 6.8: band, rise counter, rate counter, RATE, marker. -/
def classRow (c : CellState) : Band × Nat × Nat × Bool × Bool :=
  (c.band, c.riseCount, c.rateCount, c.flags.rate, c.prevValid)

/-- Cell 45 of section 6.8, scans 901 to 914. -/
theorem test_classification_sequence :
    (([(.good, 5611), (.good, 5611), (.good, 5611), (.good, 5585), (.good, 5620), (.good, 5680), (.good, 5760),
       (.good, 6010), (.good, 6040), (.good, 6050), (.good, 5550), (.estimated, 5650), (.good, 5655),
       (.good, 5660)] : List (Quality × Int)).foldl
        (fun (m : CellState × List (Band × Nat × Nat × Bool × Bool)) x =>
          let c := classified m.1 x.1 x.2
          (c, m.2 ++ [classRow c]))
        ({ CellState.reset with
            quality := .good, resolved := some 5590, filtered := some 5590, band := .watch, prevValid := true },
         [])).2
      = [(.watch, 1, 1, false, true), (.watch, 2, 0, false, true), (.alarm, 0, 0, false, true),
         (.alarm, 0, 0, false, true), (.alarm, 0, 1, false, true), (.alarm, 0, 2, false, true),
         (.alarm, 0, 3, true, true), (.alarm, 1, 3, true, true), (.alarm, 2, 3, true, true),
         (.limit, 0, 0, false, true), (.watch, 0, 0, false, true), (.watch, 1, 0, false, false),
         (.watch, 2, 0, false, true), (.alarm, 0, 0, false, true)] := by decide +kernel

/-- The rings and pairs asked for in section 7.8, and whether they are allocated. -/
theorem test_trend_allocations :
    (([(0, .ring 40 .r8 true), (1, .ring 129 .r128 false), (1, .ring 128 .r128 false), (2, .paired 100),
       (3, .ring 64 .r64 false), (3, .ring 0 .r64 false), (3, .ring 48 .r32 false),
       (3, .ring 60 .r32 false)] : List (PassNo × TrendConfig)).foldl
        (fun (m : Trend × List Bool) x =>
          if !fitsPool x.2 || trendConflict m.1 x.1 x.2 then (m.1, m.2 ++ [false])
          else (m.1.configure x.1 x.2, m.2 ++ [true])) (Trend.reset, [])).2
      = [true, false, true, true, false, false, true, true] := by decide +kernel

/-- The ring of section 7.9: write position and fill count after each of scans 101 to 111, and its notices. -/
theorem test_valid_only_ring :
    ([true, true, false, true, true, true, true, true, true, false, true].foldl
        (fun (m : PassTrend × List (Nat × Nat) × List NoticeKind) valid =>
          let x := takeFrame (fill 256 none) m.1 (frame 0 0 (if valid then .good else .void))
          (x.record, m.2.1 ++ [(x.record.writePosition, x.record.fillCount)],
            m.2.2 ++ x.notices.map Notice.kind))
        (PassTrend.emptied (.ring 40 .r8 true), [], [])).2
      = ([(1, 1), (2, 2), (2, 2), (3, 3), (4, 4), (5, 5), (6, 6), (7, 7), (0, 8), (0, 7), (1, 8)],
         [.trendHalf, .trendWrap]) := by decide +kernel

/-- The pair of section 7.10: active slot and stored count after each of scans 201 to 205. -/
theorem test_paired_pass :
    ([false, true, false, false, true].foldl
        (fun (m : PassTrend × List (PairSlot × Nat)) valid =>
          let x := takeFrame (fill 256 none) m.1 (frame 2 0 (if valid then .good else .void))
          (x.record, m.2 ++ [(x.record.active, x.record.storedCount)]))
        (PassTrend.emptied (.paired 100), [])).2
      = [(.first, 0), (.second, 1), (.second, 1), (.second, 1), (.first, 1)] := by decide +kernel

/-- The first record of section 8.6, row 1: eight records from sequence 65530, over both wraps. -/
theorem test_log_read_over_both_wraps :
    (wrappedLog.run (wrappedLog.distance 65530) 8).map Record.sequence
      = [65530, 65531, 65532, 65533, 65534, 65535, 0, 1] := by decide +kernel

/-- The outcomes of section 8.6: LOG_READ from 220 (0xDC), 221, 32000 (0x7D00), 33000 (0x80E8). -/
theorem test_log_read_outcomes :
    ([[0x00, 0xDC, 8], [0x00, 0xDD, 8], [0x7D, 0x00, 8], [0x80, 0xE8, 8]].map fun pl =>
      (replyBody (after (exec (.logRead .control pl) logged)) .control).bind List.head?)
      = [some 0, some 3, some 3, some 9] := by decide +kernel

/-- The queue of section 9.7 after step 1 to step 3: levels and NOTICE_LOST. -/
theorem test_full_queue :
    let u := [⟨.passClosed, some 1⟩, ⟨.channelRecovered, some 40⟩, ⟨.limitEntered, some 45⟩].foldl
      (NoticeUnit.arrive 0) queued.notices
    ((List.range 4).map (queuedAt u.queue) = [2, 27, 2, 1]) ∧ u.flags.noticeLost = true := by
  decide +kernel

/-- A record of section 8.7: its kind, time tag, scan and subject. -/
def record87 (kind : RecordKind) (timeTag scan : Word32) (subject : Subject) : RecordBody :=
  ⟨kind, timeTag, scan, subject, none, none, none, none, none, none⟩

/-- Section 8.7 before the first arrival: 126 records taken, and the publication's three in transit. -/
def flow87 : Flow where
  log := { Log.reset with writePosition := 126, count := 126 }
  notices := NoticeUnit.reset false
  transit := [.record (record87 .bandRise 50010 3310 (.cell 5)), .record (record87 .rateOn 50010 3310 (.cell 5)),
    .record (record87 .holdOn 50010 3310 (.pass 2))]

/-- The table of section 8.7: the CHANNEL_FAILED of the next scan takes its sequence between two records of
one publication, and the LOG_HALF of the second of them is still on its way. -/
theorem test_records_of_two_blocks :
    ∃ g : Flow, Emits 50120 [.record (record87 .channelFailed 50120 3311 (.channel 44))] flow87 g
      ∧ (([126, 127, 128, 129] : List (Fin 256)).map fun n =>
          (g.log.slots[n]).map fun r => (r.sequence, r.body.kind, r.body.scanNumber)) =
        [some (126, .bandRise, 3310), some (127, .rateOn, 3310), some (128, .channelFailed, 3311),
          some (129, .holdOn, 3310)]
      ∧ g.log.count = 130 ∧ g.transit = [.notice ⟨.logHalf, none⟩] :=
  ⟨_, .arrives ⟨[], _, _, rfl, by simp, rfl⟩ (.arrives ⟨[], _, _, rfl, by simp, rfl⟩
    (.emits (.arrives ⟨[], _, _, rfl, by simp, rfl⟩ (.done _)))), by decide +kernel, by decide +kernel,
    by decide +kernel⟩

/-- NOTICE_TAKE of section 9.7, step 6, on the queue of its start: the two ALARM_ENTERED entries and the
two oldest CHANNEL_FAILED entries, 28 remaining. -/
theorem test_notice_take :
    gives (.noticeTake .control [6]) queued (fun t =>
      (replyBody t .control).map (fun b => (b.take 3, b.getD 3 0, b.getD 5 0, b.length))
        == some ([0, 4, 28], 1, 45, 39) && t.notices.queue.length == 28) = true := by decide +kernel

/-- The check of R167 over the nine characters 1 to 9 is 0x29B1, the value known for this CRC-16. -/
theorem test_crc : crc [0x31, 0x32, 0x33, 0x34, 0x35, 0x36, 0x37, 0x38, 0x39] = 0x29B1 := by decide +kernel

/-! ### States that meet the hypotheses of the statements -/

/-- A port that is sending a reply. -/
def replying : State := State.reset.setPort .control ⟨.hunting, some [0xA7]⟩

/-- The maintenance port is permitted every kind but PERMIT_SET. -/
def allPermitted : State :=
  { State.reset with link := { State.reset.link with permits := tab fun i => i.val != 36 } }

/-- A published map with one LIMIT cell. -/
def limitState : State :=
  inState .running { State.reset with map := { State.reset.map with published := { State.reset.map.published with
    cells := upd State.reset.map.published.cells 5 fun c => { c with band := .limit } } } }

/-- The step of a state answers a next state. -/
def steps (s : State) : Prop := ∃ t : State, step s = .next t

/-- A state with one command waiting. -/
def withCommand (c : Instr) (s : State) : State := { s with pending := [c] }

theorem steps_withCommand (c : Instr) (s : State) (h : ∃ t : State, exec c { s with pending := [] } = .next t) :
    steps (withCommand c s) := h

theorem witness_StepRunsFrontCommand :
    (withCommand .publication State.reset).pending = .publication :: [] ∧ State.reset.pending = []
    ∧ State.reset.transit = [] ∧ State.reset.operating = true
    ∧ ({ State.reset with transit := [.notice ⟨.timeWrap, none⟩] } : State).transit ≠ [] :=
  ⟨rfl, rfl, rfl, rfl, by decide⟩

theorem witness_PowerOnAndResetValues : State.reset.powered = true := rfl

theorem witness_HeldAndUnpoweredPart :
    (after (exec .resetPinAssert State.reset)).resetPin = true ∧ (after (exec .powerLoss State.reset)).powered = false
    ∧ Instr.publication.isSupplyRow = false := ⟨rfl, rfl, rfl⟩

theorem witness_BytesAndFrameEnds :
    State.reset.operating = true ∧ (replying.port .control).reply ≠ none
    ∧ State.reset.port .control = ⟨.hunting, none⟩
    ∧ (State.reset.setPort .control ⟨.assembling [1, 2], none⟩).port .control = ⟨.assembling [1, 2], none⟩
    ∧ (240 : Byte).toNat ≤ 240 ∧ 240 < (241 : Byte).toNat
    ∧ 3 ≤ [1, 2, (0 : Byte)].length ∧ [1, 2, (0 : Byte)].length + 1 < 0 + 5
    ∧ RequestKind.ofCode 0x7F = none ∧ (0x7F : Byte).toNat < 128 := by decide +kernel

theorem witness_FrameBytesAreTheFramesRow :
    State.reset.operating = true ∧ State.reset.port .control = ⟨.hunting, none⟩
    ∧ (List.replicate 240 (0 : Byte)).length ≤ 240 ∧ State.reset.link.stationAddress ≠ 0
    ∧ (0 : Byte) ++ (0 : Byte) ≠ crc ([1, 1, BitVec.ofNat 8 0] ++ []) := by decide +kernel

theorem witness_ReplyLayout : (List.replicate 239 (0 : Byte)).length ≤ 239 := by decide +kernel

theorem witness_RequestChecks :
    State.reset.operating = true ∧ (replying.port .control).reply ≠ none
    ∧ (State.reset.port .maintenance).reply = none ∧ State.reset.link.permitted .start = false
    ∧ State.reset.link.permitted .identify = true ∧ lengthOk .identify [(0 : Byte)].length = false := by
  decide +kernel

theorem witness_RefusalsAndReadsChangeOnlyTheirPort :
    gives (RequestKind.identify.command .control [0]) State.reset (fun t =>
      ((t.port .control).reply.bind replyCode) == some 2) = true
    ∧ isReadKind .logRead = true ∧ gives (RequestKind.logRead.command .control [0, 0, 1]) State.reset (fun _ => true)
      = true := by decide +kernel

theorem witness_MaintWriteMarksMaintenanceWrites :
    allPermitted.operating = true ∧ (allPermitted.port .maintenance).reply = none ∧ isReadKind .scanSet = false
    ∧ gives (RequestKind.scanSet.command .maintenance [0, 10]) allPermitted (fun t =>
      ((t.port .maintenance).reply.bind replyCode) == some 0 && t.notices.flags.maintWrite) = true
    ∧ RequestKind.scanSet ≠ .conditionsTake := by decide +kernel

theorem witness_PortsIndependent :
    (Instr.identify .control []).isSupplyRow = false ∧ (Instr.identify .control []).onPort ≠ some .maintenance
    ∧ gives (.identify .control []) State.reset (fun t => (t.port .control).reply.isSome) = true := by
  decide +kernel

theorem zoneLaw_default (z : ZoneNo) : ZoneLaw z (ZoneRecord.default z) := by
  refine ⟨?_, ?_, ?_, ?_, ?_, ?_, ?_, ?_, ?_, ?_, ?_, ?_, ?_, ?_⟩ <;>
    simp [ZoneRecord.default, InDeviceRange]

theorem settingsLaw_reset : SettingsLaw State.reset := by
  refine ⟨fun c d => ?_, fun c => ?_, fun n => ?_, ?_, fun k => ?_, fun p => ?_, fun i => ?_, fun z => ?_,
    fun z e => ?_, fun c h => ?_⟩
  · simp [State.reset, State.afterReset, Input.reset, ChannelEntry.default]
  · simp [State.reset, State.afterReset, Input.reset, ChannelEntry.default, TrimLaw]
  · left
    simp [State.reset, State.afterReset, Input.reset]
  · exact ⟨by decide, by decide⟩
  · simp [State.reset, State.afterReset, Input.reset, CardEntry.default]
  · simp [State.reset, State.afterReset, MapEngine.reset, PassEntry.default]
  · simp [State.reset, State.afterReset, MapEngine.reset, Binding.default]
  · simpa [State.reset, State.afterReset, MapEngine.reset] using zoneLaw_default z
  · simp [State.reset, State.afterReset, MapEngine.reset, ControlLatch.empty]
  · cases h

theorem trendLaw_reset : TrendLaw State.reset.trend := by
  have h (p : PassNo) : State.reset.trend.passes[p] = PassTrend.emptied .off := by
    simp [State.reset, State.afterReset, Trend.reset]
  refine ⟨fun p n => ?_, fun p q n => ?_, fun p => ?_, fun p k => ?_⟩
  · simp [h, PassTrend.emptied, inAllocation, allocation]
  · simp [h, PassTrend.emptied, inAllocation, allocation]
  · rw [h]
    exact ⟨by decide, trivial⟩
  · simp [h, PassTrend.emptied, storedFrames]

theorem witness_RepliesFitTheFrame :
    SettingsLaw State.reset ∧ TrendLaw State.reset.trend ∧ (State.reset.port .control).reply = none
    ∧ gives (.identify .control []) State.reset (fun t => (t.port .control).reply.isSome) = true :=
  ⟨settingsLaw_reset, trendLaw_reset, rfl, by decide +kernel⟩

theorem witness_PermitSetWritesOneEntry :
    State.reset.operating = true ∧ (State.reset.port .control).reply = none
    ∧ RequestKind.ofCode 0x10 = some .start ∧ (1 : Byte).toNat ≤ 1
    ∧ RequestKind.ofCode 0x58 = some .permitSet ∧ RequestKind.ofCode 0x00 = none ∧ 1 < (2 : Byte).toNat := by
  decide +kernel

theorem witness_PermitSetStaysRefused :
    State.reset.link.permitted .permitSet = false ∧ steps (withCommand (.permitSet .control [0x58, 1]) State.reset) :=
  ⟨by decide +kernel, steps_withCommand _ _ ⟨_, rfl⟩⟩

theorem witness_IdentityStatusAndConditions (k : RequestKind) : State.reset.takes .control k := ⟨rfl, rfl, .inl rfl⟩

theorem witness_StartRefusals :
    (inState .running State.reset).op.state ≠ .stopped ∧ (inState .running State.reset).takes .control .start
    ∧ (∀ c : ChannelNo, State.reset.input.channels[c].enabled = false)
    ∧ (let s := configured [3, 4]
       let t := { s with input := { s.input with curves := fill 4 [] } }
       t.takes .control .start ∧ t.op.state = .stopped ∧ t.input.channels[(3 : ChannelNo)].enabled = true
       ∧ t.input.curves[t.input.channels[(3 : ChannelNo)].curve] = []
       ∧ ∀ d < (3 : ChannelNo), t.input.channels[d].enabled = true →
          t.input.curves[t.input.channels[d].curve] ≠ []) :=
  ⟨by decide, ⟨rfl, rfl, .inl rfl⟩, by decide +kernel, ⟨rfl, rfl, .inl rfl⟩, rfl, by decide +kernel,
    by decide +kernel, by decide +kernel⟩

theorem witness_StartBeginsRun :
    let s := configured [0, 16]
    s.takes .control .start ∧ s.op.state = .stopped ∧ s.input.channels[(0 : ChannelNo)].enabled = true
    ∧ (∀ d < (0 : ChannelNo), s.input.channels[d].enabled = false)
    ∧ (∀ d : ChannelNo, s.input.channels[d].enabled = true → s.input.curves[s.input.channels[d].curve] ≠ [])
    ∧ s.input.outstanding = none :=
  ⟨⟨rfl, rfl, .inl rfl⟩, rfl, by decide +kernel, by decide, by decide +kernel, rfl⟩

theorem witness_StopChecks :
    (∀ x ∈ stopFamily, limitState.takes .control x.1) ∧ LimitPublished limitState ∧ 1 < (2 : Byte).toNat
    ∧ (1 : Byte).toNat ≤ 1 ∧ (OpState.stopped != .stopped) = false ∧ (limitState.op.state == .running) = true :=
  ⟨fun _ _ => ⟨rfl, rfl, .inl rfl⟩, ⟨5, by decide +kernel⟩, by decide, by decide, rfl, rfl⟩

theorem witness_StopAndPause :
    limitState.takes .control .stop ∧ limitState.op.state ≠ .stopped ∧ StopPasses 1 limitState
    ∧ limitState.takes .control .pause ∧ limitState.op.state = .running
    ∧ StopPasses 0 (inState .running State.reset) :=
  ⟨⟨rfl, rfl, .inl rfl⟩, by decide, .inl rfl, ⟨rfl, rfl, .inl rfl⟩, rfl, .inr ⟨rfl, by
    rintro ⟨i, -, h⟩
    simp [inState, State.reset, State.afterReset, MapEngine.reset, PublishedMap.cleared, CellState.reset] at h⟩⟩

theorem witness_ResumeOpensScan :
    let s := inState .paused (configured [0, 16])
    s.takes .control .resume ∧ State.reset.op.state ≠ .paused ∧ s.op.state = .paused
    ∧ s.input.channels[(0 : ChannelNo)].enabled = true ∧ (∀ d < (0 : ChannelNo), s.input.channels[d].enabled = false)
    ∧ ∀ d : ChannelNo, (inState .paused (configured [])).input.channels[d].enabled = false :=
  ⟨⟨rfl, rfl, .inl rfl⟩, by decide, rfl, by decide +kernel, by decide, by decide +kernel⟩

theorem witness_RestartClearsTheRun : limitState.takes .control .restart ∧ StopPasses 1 limitState :=
  ⟨⟨rfl, rfl, .inl rfl⟩, .inl rfl⟩

theorem witness_TimeTagAndResolution :
    State.reset.takes .control .syncTime ∧ State.reset.operating = true
    ∧ State.reset.port .maintenance = ⟨.hunting, none⟩ ∧ State.reset.takes .control .timeResSet
    ∧ State.reset.op.timeTag ≠ 4294967295
    ∧ (timeSet State.reset 4294967295).op.timeTag = 4294967295 ∧ (timeSet State.reset 4294967295).operating = true :=
  ⟨⟨rfl, rfl, .inl rfl⟩, rfl, rfl, ⟨rfl, rfl, .inl rfl⟩, by decide, rfl, rfl⟩

theorem witness_ScanSetAndCardSet :
    State.reset.takes .control .scanSet ∧ State.reset.takes .control .cardSet
    ∧ (inState .running State.reset).op.state ≠ .stopped ∧ State.reset.op.state = .stopped
    ∧ ((0x02 : Byte) ++ (0x58 : Byte)).toNat = 600 ∧ ((0xFE : Byte) ++ (0x70 : Byte)).toInt = -400
    ∧ ((0x04 : Byte) ++ (0xE2 : Byte)).toInt = 1250 ∧ 6 ≤ (6 : Byte).toNat ∧ (5 : Byte) = put8 (5 : CardNo).val :=
  ⟨⟨rfl, rfl, .inl rfl⟩, ⟨rfl, rfl, .inl rfl⟩, by decide, rfl, by decide, by decide, by decide, by decide, by decide⟩

theorem witness_ChannelSetAndEnable :
    State.reset.takes .control .channelSet ∧ State.reset.takes .control .channelEnable
    ∧ (configured [0, 16]).op.state = .stopped ∧ (inState .paused State.reset).op.state ≠ .stopped
    ∧ ((0x23 : Byte) ++ (0x28 : Byte)).toInt = 9000 ∧ ((0x2A : Byte) ++ (0xF8 : Byte)).toInt = 11000
    ∧ ((0xFE : Byte) ++ (0x0C : Byte)).toInt = -500 ∧ ((0x2E : Byte) ++ (0xE0 : Byte)).toInt = 12000
    ∧ (configured [0, 16]).input.channels[(16 : ChannelNo)].enabled = true
    ∧ RoutingTaken (configured [0, 16]) 16 0 0 ∧ ¬ RoutingTaken (configured [0, 16]) 16 1 5
    ∧ 96 ≤ (96 : Byte).toNat ∧ (95 : Byte) = put8 (95 : ChannelNo).val :=
  ⟨⟨rfl, rfl, .inl rfl⟩, ⟨rfl, rfl, .inl rfl⟩, rfl, by decide, by decide, by decide, by decide, by decide,
    by decide +kernel, ⟨0, by decide +kernel⟩, by unfold RoutingTaken; decide +kernel, by decide, by decide⟩

theorem curveLaw_curve0 : CurveLaw curve0 := .inr (by decide)

theorem witness_CurveSetReplacesAndGetReturns :
    State.reset.takes .control .curveSet ∧ State.reset.takes .control .curveGet ∧ State.reset.op.state = .stopped
    ∧ curve0 ≠ [] ∧ CurveLaw curve0 ∧ lengthOk .curveSet (2 + 6 * 12) = true
    ∧ [(0 : Byte)].length ≠ 6 * (0 : Byte).toNat ∧ curve0.tail.length ≤ 255
    ∧ ¬ CurveLaw [⟨0, 0⟩, ⟨0, 1⟩] :=
  ⟨⟨rfl, rfl, .inl rfl⟩, ⟨rfl, rfl, .inl rfl⟩, rfl, by decide, curveLaw_curve0, by decide, by decide, by decide,
    by unfold CurveLaw; decide⟩

theorem witness_InputReads :
    State.reset.takes .control .channelGet ∧ State.reset.takes .maintenance .channelStatus
    ∧ State.reset.takes .maintenance .cardStatus ∧ 96 ≤ (96 : Byte).toNat ∧ 6 ≤ (6 : Byte).toNat :=
  ⟨⟨rfl, rfl, .inl rfl⟩, takes_of (by decide +kernel), takes_of (by decide +kernel), by decide, by decide⟩

theorem witness_ConversionStages :
    CurveLaw curve0 ∧ curve0.head? = some ⟨-1889, -500⟩ ∧ curve0.getLast? = some ⟨33275, 8000⟩
    ∧ (channel0 0).lowClamp < (channel0 0).highClamp ∧ curve0 ≠ []
    ∧ (cardAt 350).lastGood = some 350 ∧ (CardEntry.default).lastGood = none :=
  ⟨curveLaw_curve0, rfl, rfl, by decide, by decide, rfl, rfl⟩

/-- The first, a middle and the last segment of the curve of section 3.8. -/
theorem witness_CurveIsReadBySegments :
    SegmentOf curve0 ⟨-1889, -500⟩ ⟨0, 0⟩ ∧ curve0.head? = some ⟨-1889, -500⟩
    ∧ SegmentOf curve0 ⟨0, 0⟩ ⟨4096, 1000⟩ ∧ (0 : Int) ≤ 350 ∧ (350 : Int) ≤ 1000
    ∧ SegmentOf curve0 ⟨29129, 7000⟩ ⟨33275, 8000⟩ ∧ curve0.getLast? = some ⟨33275, 8000⟩ :=
  ⟨⟨[], _, rfl⟩, rfl, ⟨[_], _, rfl⟩, by decide, by decide, ⟨curve0.take 8, [], rfl⟩, rfl⟩

theorem witness_ConversionAnswerTaken :
    let s := scanning (scan2 true) (.conversion 0 0)
    ScanAt s (scan2 true) (fun k => s.input.cards[k].lostInScan = true) 0 [] 16 []
    ∧ (scan2 true).asked[s.input.channels[(0 : ChannelNo)].card] = true :=
  ⟨⟨rfl, rfl, rfl, by decide, by decide +kernel, by decide, by decide +kernel⟩, by decide +kernel⟩

theorem witness_ColdJunctionAnswerTaken :
    let s := scanning (scan2 false) (.coldJunction 0)
    s.operating = true ∧ s.input.scan = .scanning (scan2 false) ∧ (scan2 false).remaining = 0 :: [16]
    ∧ s.input.outstanding = some ⟨.coldJunction s.input.channels[(0 : ChannelNo)].card, false⟩
    ∧ s.input.cards[s.input.channels[(0 : ChannelNo)].card].lostInScan = false :=
  ⟨rfl, rfl, rfl, by decide +kernel, by decide +kernel⟩

/-- Channels 0 and 1 of card 0 and channel 16 of card 1 on the list, card 0 being asked. -/
def scan3 : OpenScan := { scan2 false with remaining := [0, 1, 16] }

theorem witness_AnswerPeriodExpiryLosesCard :
    let s := scanning scan3 (.coldJunction 0)
    ScanAt s scan3 (fun k => k = s.input.channels[(0 : ChannelNo)].card ∨ s.input.cards[k].lostInScan = true)
      0 [1] 16 [] :=
  ⟨rfl, rfl, rfl, by decide, by decide +kernel, by decide +kernel, by decide +kernel⟩

theorem witness_DiscardedAnswersHaveNoEffect :
    (∀ o, (scanning (scan2 true) (.conversion 0 0)).input.outstanding = some o → true = true →
      o.request ≠ .conversion 0 1)
    ∧ (State.reset.setOutstanding (some ⟨.conversion 0 0, true⟩)).input.scan = .idle
    ∧ (let s := (scanning (scan2 true) (.conversion 0 0)).setOutstanding (some ⟨.conversion 3 1, true⟩)
       s.operating = true ∧ s.input.scan = .scanning (scan2 true) ∧ (scan2 true).remaining = 0 :: [16]
       ∧ s.input.cards[s.input.channels[(0 : ChannelNo)].card].lostInScan = false
       ∧ s.input.outstanding = some ⟨.conversion 3 1, true⟩) :=
  ⟨by
    rintro o h -
    cases h
    decide, rfl, rfl, rfl, rfl, by decide +kernel, rfl⟩

/-- Channel 0 alone, and channels 0 and 16, to be read, card 0 being asked. -/
def scanEnd (rest : List ChannelNo) : OpenScan := { scan2 true with remaining := 0 :: rest }

/-- That scan at its last answer or expiry, card 1 being lost in the scan. -/
def atEnd (rest : List ChannelNo) : State :=
  let s := scanning (scanEnd rest) (.conversion 0 0)
  { s with input := { s.input with cards := upd s.input.cards 1 fun k => { k with lostInScan := true } } }

theorem endsByAnswer_atEnd : EndsByAnswer (atEnd [16]) (scanEnd [16]) 0 [16] :=
  ⟨by decide +kernel, rfl, rfl, rfl, by decide, by decide +kernel, by decide +kernel⟩

/-- The same with the due marker set, and with no channel enabled any more. -/
def lateEnd (enabled : Bool) : State :=
  { atEnd [16] with input := { (atEnd [16]).input with
      due := true
      channels := tab fun c => { (atEnd [16]).input.channels[c] with enabled := enabled && c == 0 } } }

theorem witness_LastReadingClosesScan :
    EndsByAnswer (atEnd []) (scanEnd []) 0 [] ∧ EndsByAnswer (atEnd [16]) (scanEnd [16]) 0 [16]
    ∧ EndsByExpiry (atEnd []) (scanEnd []) 0 [] ∧ EndsByExpiry (atEnd [1]) (scanEnd [1]) 0 [1]
    ∧ (atEnd []).input.due = false ∧ (atEnd [16]).input.due = false :=
  ⟨⟨by decide +kernel, rfl, rfl, rfl, by decide, by decide +kernel, by decide⟩, endsByAnswer_atEnd,
    ⟨rfl, rfl, rfl, by decide, by decide +kernel, by decide⟩,
    ⟨rfl, rfl, rfl, by decide, by decide +kernel, by decide +kernel⟩, rfl, rfl⟩

theorem witness_LateScanOpensTheNext :
    (∀ b, EndsByAnswer (lateEnd b) (scanEnd [16]) 0 [16] ∧ EndsByExpiry (lateEnd b) (scanEnd [16]) 0 [16]
      ∧ (lateEnd b).input.due = true)
    ∧ (lateEnd true).input.channels[(0 : ChannelNo)].enabled = true
    ∧ (∀ x < (0 : ChannelNo), (lateEnd true).input.channels[x].enabled = false)
    ∧ ∀ x : ChannelNo, (lateEnd false).input.channels[x].enabled = false := by
  refine ⟨fun b => ⟨⟨?_, rfl, rfl, rfl, by decide, ?_, ?_⟩, ⟨rfl, rfl, rfl, by decide, ?_, ?_⟩, rfl⟩, by decide +kernel,
    by decide, by decide +kernel⟩ <;> cases b <;> decide +kernel

theorem witness_TimerExpiryOpensOrMarks :
    waitingState.operating = true ∧ waitingState.op.timer = some 10 ∧ waitingState.input.scan = .waiting
    ∧ (scanning (scan2 true) (.conversion 0 0)).op.timer = some 10
    ∧ (scanning (scan2 true) (.conversion 0 0)).input.scan = .scanning (scan2 true)
    ∧ (waitingState.setScan .idle).input.scan = .idle
    ∧ waitingState.input.channels[(0 : ChannelNo)].enabled = true
    ∧ (∀ d < (0 : ChannelNo), waitingState.input.channels[d].enabled = false)
    ∧ (let empty := (configured []).setScan .waiting
       empty.input.scan = .waiting ∧ ∀ d : ChannelNo, empty.input.channels[d].enabled = false) :=
  ⟨rfl, rfl, rfl, rfl, rfl, rfl, by decide +kernel, by decide, rfl, by decide +kernel⟩

theorem witness_PassSetAndCellBind :
    State.reset.takes .control .passSet ∧ State.reset.takes .control .cellBind
    ∧ (inState .running State.reset).op.state ≠ .stopped ∧ State.reset.op.state = .stopped
    ∧ (3 : Byte) = put8 (3 : PassNo).val ∧ 4 ≤ (4 : Byte).toNat ∧ 32 < (33 : Byte).toNat ∧ (32 : Byte).toNat ≤ 32
    ∧ ((0x80 : Byte) ++ (0x00 : Byte)).toInt = -32768 ∧ ((0x13 : Byte) ++ (0x88 : Byte)).toInt = 5000
    ∧ isPresent State.reset.map.passes 127 = true ∧ isPresent workedMap.passes 38 = false
    ∧ (Binding.mk (some 0) (some 95) .mean true).secondary ≠ (Binding.mk (some 0) (some 95) .mean true).primary :=
  ⟨⟨rfl, rfl, .inl rfl⟩, ⟨rfl, rfl, .inl rfl⟩, by decide, rfl, by decide, by decide, by decide, by decide,
    by decide, by decide, by decide +kernel, by decide +kernel, by decide⟩

theorem zoneLaw_zone4 : ZoneLaw 4 zone4 := by
  refine ⟨?_, ?_, ?_, ?_, ?_, ?_, ?_, ?_, ?_, ?_, ?_, ?_, ?_, ?_⟩ <;>
    simp [zone4, ZoneRecord.default, InDeviceRange]

/-- Nineteen zero bytes ask for no lawful zone: a persistence of 0 is out of range. -/
theorem zeros_ask_no_zone (r : ZoneRecord) (h : ZoneAsked 4 (List.replicate 19 0) r) : ¬ ZoneLaw 4 r := by
  intro law
  have := congrArg (fun l => (l.getD 8 0).toNat) h.2.1
  change 0 = (put8 r.persistence).toNat at this
  rw [put8_toNat] at this
  have := law.persistence
  omega

theorem witness_ZoneSetPendsAndGetReturns :
    State.reset.takes .control .zoneSet ∧ ZoneLaw 4 zone4 ∧ ZoneAsked 4 (zonePayload zone4) zone4
    ∧ ZoneLaw 0 (ZoneRecord.default 0)
    ∧ ZoneAsked 0 ([9, 9, 9, 9] ++ (zonePayload (ZoneRecord.default 0)).drop 4) (ZoneRecord.default 0)
    ∧ (∀ r, ZoneAsked 4 (List.replicate 19 0) r → ¬ ZoneLaw 4 r)
    ∧ 8 ≤ (8 : Byte).toNat ∧ State.reset.takes .control .zoneGet
    ∧ (upd State.reset.map.latch.zoneEdits 4 fun _ => written zone4)[(4 : ZoneNo)] = some ⟨zone4, false⟩
    ∧ State.reset.map.latch.zoneEdits[(4 : ZoneNo)] = none :=
  ⟨⟨rfl, rfl, .inl rfl⟩, zoneLaw_zone4, ⟨by decide +kernel, rfl, rfl⟩, zoneLaw_default 0,
    ⟨by decide +kernel, rfl, ⟨rfl, rfl, rfl, rfl⟩⟩, zeros_ask_no_zone, by decide, ⟨rfl, rfl, .inl rfl⟩,
    by simp only [Fin.getElem_fin, upd_get_self, written], by decide +kernel⟩

theorem witness_HoldsAndPeakClearsPend :
    State.reset.takes .control .holdPass ∧ State.reset.takes .control .releasePass
    ∧ State.reset.takes .control .clearPeaks ∧ 4 ≤ (4 : Byte).toNat ∧ (4 : Byte).toNat ≤ 4 ∧ 4 < (5 : Byte).toNat :=
  ⟨⟨rfl, rfl, .inl rfl⟩, ⟨rfl, rfl, .inl rfl⟩, ⟨rfl, rfl, .inl rfl⟩, by decide, by decide, by decide⟩

theorem witness_MapReads :
    State.reset.takes .control .cellGet ∧ State.reset.takes .control .mapRead
    ∧ State.reset.takes .control .passSummary ∧ isPresent State.reset.map.passes 127 = true
    ∧ State.reset.map.published.isPresent 127 = true ∧ isPresent workedMap.passes 38 = false
    ∧ (let raised := { State.reset.map with published := PublishedMap.cleared workedMap.passes }
       isPresent raised.passes 38 = true ∧ raised.published.isPresent 38 = false)
    ∧ 128 ≤ (128 : Byte).toNat
    ∧ (31 : Byte).toNat < State.reset.map.published.summaries[(3 : PassNo)].stations
    ∧ State.reset.map.published.summaries[(3 : PassNo)].stations ≤ (32 : Byte).toNat ∧ 4 < (5 : Byte).toNat :=
  ⟨⟨rfl, rfl, .inl rfl⟩, ⟨rfl, rfl, .inl rfl⟩, ⟨rfl, rfl, .inl rfl⟩, by decide +kernel, by decide +kernel,
    by decide +kernel, ⟨by decide +kernel, by decide +kernel⟩, by decide, by decide +kernel, by decide +kernel,
    by decide⟩

theorem witness_IntakeAndAbandonment :
    MapEngine.reset.computing = none ∧ computingMap.computing.isSome = true ∧ computingMap.waiting = none
    ∧ ({ computingMap with waiting := some ⟨emptyImage, true⟩ } : MapEngine).waiting = some ⟨emptyImage, true⟩
    ∧ MapEngine.reset.waiting = none ∧ MapEngine.reset.resumeMarker = false
    ∧ (∀ (z : ZoneNo) (e : Entry ZoneRecord),
        (upd MapEngine.reset.latch.zoneEdits 4 fun _ => written zone4)[z] = some e → e.taken = false) := by
  refine ⟨rfl, rfl, rfl, rfl, rfl, rfl, fun z e h => ?_⟩
  simp only [Fin.getElem_fin, upd_get, MapEngine.reset, ControlLatch.empty, fill_get, written] at h
  split at h <;> simp at h
  rw [← h]

/-- A latch with an edit that changes a limit, a hold, a release and a peak clear pending. -/
def pendingMap : MapEngine :=
  { MapEngine.reset with
    passes := upd MapEngine.reset.passes 2 fun e => { e with held := true }
    latch := {
      zoneEdits := upd MapEngine.reset.latch.zoneEdits 4 fun _ => written zone4
      holds := tab fun p => if p = 1 then some ⟨true, false⟩ else if p = 2 then some ⟨false, false⟩ else none
      peakClears := upd MapEngine.reset.latch.peakClears 3 fun _ => some ⟨(), false⟩ } }

theorem witness_ControlLatchApplies :
    Pends pendingMap.latch.zoneEdits[(4 : ZoneNo)] zone4 ∧ ChangesLimits pendingMap.zones[(4 : ZoneNo)] zone4
    ∧ (∀ edit, ¬ Pends pendingMap.latch.zoneEdits[(5 : ZoneNo)] edit)
    ∧ Pends pendingMap.latch.holds[(1 : PassNo)] true ∧ true ≠ pendingMap.passes[(1 : PassNo)].held
    ∧ Pends pendingMap.latch.holds[(2 : PassNo)] false ∧ pendingMap.passes[(2 : PassNo)].held = true
    ∧ (∀ b, ¬ Pends pendingMap.latch.holds[(0 : PassNo)] b)
    ∧ Pends pendingMap.latch.peakClears[(3 : PassNo)] () ∧ (⟨emptyImage, true⟩ : MarkedImage).resume = true
    ∧ isPresent pendingMap.passes 127 = true := by
  have h5 : pendingMap.latch.zoneEdits[(5 : ZoneNo)] = none := by decide +kernel
  have h0 : pendingMap.latch.holds[(0 : PassNo)] = none := by decide +kernel
  refine ⟨by unfold Pends; decide +kernel, .inl (by decide +kernel), ?_, by unfold Pends; decide +kernel,
    by decide +kernel, by unfold Pends; decide +kernel, by decide +kernel, ?_, by unfold Pends; decide +kernel, rfl,
    by decide +kernel⟩
  · intro edit h
    rw [Pends, h5] at h
    cases h
  · intro b h
    rw [Pends, h0] at h
    cases h

theorem witness_PublicationReplacesTheMap :
    workedState.operating = true ∧ workedState.map.computing.isSome = true ∧ workedState.map.waiting = none
    ∧ isPresent workedState.map.passes 37 = true
    ∧ ({ workedState.map with waiting := some ⟨emptyImage, true⟩ } : MapEngine).waiting.isSome = true :=
  ⟨rfl, rfl, rfl, by decide +kernel, rfl⟩

theorem witness_PublicationStreams :
    ∃ c, workedState.map.computing = some c
    ∧ (∃ f ∈ publicationFrames workedState.map c, workedState.map.passes[f.pass].stations ≤ 32
      ∧ (5 : Station).val < workedState.map.passes[f.pass].stations) :=
  ⟨_, rfl, frameOf _ _ 1, List.mem_map_of_mem (List.mem_finRange 1), by
    show workedState.map.passes[(1 : PassNo)].stations ≤ 32
      ∧ 5 < workedState.map.passes[(1 : PassNo)].stations
    decide +kernel⟩

/-- The engine of section 5.11 with cell 32 in band ALARM, which no edge of zone 0 holds. -/
def fallingMap : MapEngine :=
  { workedMap with cells := upd workedMap.cells 32 fun c => { c with band := .alarm } }.startComputation
    ⟨workedImage, false⟩

/-- Its publication has a record of cell 32. -/
theorem witness_records_of_a_cell :
    ∃ c, fallingMap.computing = some c ∧ ∃ r ∈ publicationRecords fallingMap c, r.subject = .cell 32 := by
  refine ⟨_, rfl, ?_⟩
  have h : (recordsOfCell fallingMap (fallingMap.computing.get rfl) 32).any
      (fun r => r.subject == .cell 32) = true := by decide +kernel
  obtain ⟨r, hr, he⟩ := List.any_eq_true.1 h
  exact ⟨r, List.mem_flatMap.2 ⟨1, List.mem_finRange 1, List.mem_append_left _ (List.mem_append_right _
    (List.mem_flatMap.2 ⟨32, List.mem_map.2 ⟨0, List.mem_finRange 0, rfl⟩, hr⟩))⟩, by simpa using he⟩

/-- An engine whose computation of scan 4412 forms a record of every kind: pass 0 with six cells, pass 1 taken
off duty, pass 2 put back, pass 3 with a cell that becomes VOID. -/
def recordsMap : MapEngine :=
  let good (f : Int) : CellState := workedCell .good f f 0 (some f)
  { MapEngine.reset with
    passes := tab fun p =>
      { PassEntry.default with
        stations := if p = 0 then 6 else 1, spreadLimit := some 100, held := p == 2, spreadFlag := p == 2 }
    zones := upd MapEngine.reset.zones 0 fun z =>
      { z with persistence := 1, weight := 16, watch := some 5400, rateLimit := some 120, discrepancy := some 20 }
    bindings := tab fun i =>
      if i = 0 ∨ i = 64 then ⟨some 20, none, .primary, true⟩
      else if i = 1 then ⟨some 24, none, .primary, true⟩
      else if i = 2 then ⟨some 21, none, .primary, true⟩
      else if i = 3 then ⟨some 23, none, .primary, true⟩
      else if i = 4 then ⟨some 21, some 22, .primary, true⟩
      else if i = 5 then ⟨some 20, some 24, .primary, true⟩
      else Binding.default
    cells := tab fun i =>
      if i = 0 then { good 5100 with band := .watch }
      else if i = 1 then good 5500
      else if i = 2 then workedCell .estimated 5425 5425 0 none
      else if i = 3 then good 5300
      else if i = 4 then { good 5428 with band := .watch, flags := ⟨false, false, false, true, true⟩ }
      else if i = 5 then good 5118
      else if i = 64 then { good 5118 with band := .held }
      else if i = 96 then
        { workedCell .estimated 5450 5450 0 none with band := .watch, flags := ⟨false, false, false, true, true⟩ }
      else { CellState.reset with scanNumber := 4411 }
    latch := { ControlLatch.empty with
      holds := tab fun p => if p = 1 then some ⟨true, false⟩ else if p = 2 then some ⟨false, false⟩ else none } }

/-- Its computation, past its latch. -/
def recordsComputation : MapEngine := recordsMap.startComputation ⟨workedImage, false⟩

/-- Its records, each with its subject, value and quality, worked out by hand from R81, R83, R96, R111, R114,
R119 to R124 and R12. -/
theorem test_records_formed :
    (recordsComputation.computing.elim [] (publicationRecords recordsComputation)).map
      (fun r => (r.kind, r.subject, r.value, r.quality))
    = [(.bandFall, .cell 0, some 5120, some .good), (.bandRise, .cell 1, some 5611, some .good),
       (.rateOn, .cell 1, some 666, some .good), (.sourceBack, .cell 2, some 5429, some .good),
       (.bandRise, .cell 2, some 5429, some .good), (.sourceLost, .cell 3, some 5300, some .held),
       (.rateOff, .cell 4, some 6, some .good), (.disagreeOff, .cell 4, some 2, some .good),
       (.disagreeOn, .cell 5, some 491, some .good), (.spreadOn, .pass 0, some 276, none),
       (.holdOn, .pass 1, none, none), (.holdOff, .pass 2, none, none), (.spreadOff, .pass 2, some 0, none),
       (.bandFall, .cell 96, none, some .void), (.rateOff, .cell 96, none, some .void),
       (.disagreeOff, .cell 96, none, some .void)] := by decide +kernel

/-- A cell whose peak is its filtered value obeys the law. -/
theorem cellLaw_of {held : Bool} {c : CellState} (values : c.quality = .void ↔ c.filtered = none)
    (resolved : c.quality = .void ↔ c.resolved = none) (band : held = true ↔ c.band = .held)
    (edges : c.band ≠ .alarm ∧ c.band ≠ .limit) (void : c.quality = .void → held = false → c.band = .normal)
    (peak : c.quality = .good → c.filtered.isSome = true ∧ c.peak = c.filtered) : CellLaw held c := by
  refine ⟨values, resolved, band, fun _ => edges, void, fun h => ?_⟩
  obtain ⟨f, hf⟩ := Option.isSome_iff_exists.1 (peak h).1
  exact ⟨f, f, hf, (peak h).2.trans hf, le_refl f⟩

/-- The computation is past its latch as the map's law has it, with a record of every clause
(test_records_formed). -/
theorem witness_CellRecordsFormed :
    ∃ c, recordsComputation.computing = some c ∧ LatchedLaw recordsComputation c
      ∧ recordsComputation.bindings[(4 : CellIndex)].logEnable = true := by
  have present : ∀ i : CellIndex, isPresent recordsComputation.passes i = true →
      i ∈ ([0, 1, 2, 3, 4, 5, 32, 64, 96] : List CellIndex) := by decide +kernel
  have law : ∀ i ∈ ([0, 1, 2, 3, 4, 5, 32, 64, 96] : List CellIndex),
      let held := recordsMap.passes[passOf i].held
      let c := recordsMap.cells[i]
      (c.quality = .void ↔ c.filtered = none) ∧ (c.quality = .void ↔ c.resolved = none)
      ∧ (held = true ↔ c.band = .held) ∧ (c.band ≠ .alarm ∧ c.band ≠ .limit)
      ∧ (c.quality = .void → held = false → c.band = .normal)
      ∧ (c.quality = .good → c.filtered.isSome = true ∧ c.peak = c.filtered) := by decide +kernel
  refine ⟨_, rfl, ⟨fun i hi => ⟨?_, recordsComputation.cells[i].prevValid, rfl⟩, by decide +kernel⟩, by decide +kernel⟩
  obtain ⟨h1, h2, h3, h4, h5, h6⟩ := law i (present i hi)
  rw [Fin.getElem_fin, tab_get]
  exact cellLaw_of h1 h2 h3 h4 h5 h6

/-- The zone table with zone 4 of section 6.8 in it. -/
def zones4 : Vector ZoneRecord 8 := upd MapEngine.reset.zones 4 fun _ => zone4

/-- Cell 45 is covered by zones 0 and 4 alone: a cell of zone 0 gets another zone, one of zone 4 keeps its
own, and loses its counters where the zone's limits have changed. -/
theorem witness_GoverningZoneStage :
    (applyZone zones4 (fill 8 false) 45 CellState.reset).zone ≠ CellState.reset.zone
    ∧ (applyZone zones4 (fill 8 false) 45 { CellState.reset with zone := 4 }).zone = 4
    ∧ (fill 8 false)[(4 : ZoneNo)] = false
    ∧ (fill 8 true)[(applyZone zones4 (fill 8 true) 45 { CellState.reset with zone := 4 }).zone] = true := by
  decide +kernel

theorem not_usable {readings : Vector Reading 96} {n : ChannelNo} (h : readings[n].usable = false) (r : Reading)
    (v : Int) : ¬ UsableFor readings (some n) r v := by
  rintro ⟨m, hm, rfl, hu, -⟩
  cases hm
  rw [h] at hu
  cases hu

/-- The cells of section 5.11: 32 has its primary alone, 37 its secondary alone, 35 both, 36 neither and its
hold count below the allowance or at it. -/
theorem witness_SourceStage :
    UsableFor workedImage.readings (some 20) (workedReading 5120 true) 5120
    ∧ (∀ q w, ¬ UsableFor workedImage.readings none q w)
    ∧ (∀ r v, ¬ UsableFor workedImage.readings (some 23) r v)
    ∧ UsableFor workedImage.readings (some 24) (workedReading 5611 false) 5611
    ∧ UsableFor workedImage.readings (some 21) (workedReading 5429 false) 5429
    ∧ UsableFor workedImage.readings (some 22) (workedReading 5431 false) 5431
    ∧ (∀ r v, ¬ UsableFor workedImage.readings (some 25) r v)
    ∧ (workedCell .held 5502 5500 2 (some 5540)).quality = .held
    ∧ (workedCell .held 5502 5500 2 (some 5540)).holdCount < 3
    ∧ ¬ (workedCell .held 5502 5500 2 (some 5540)).holdCount < 2 :=
  ⟨⟨20, rfl, by decide +kernel, rfl, rfl⟩, (by rintro q w ⟨n, h, -⟩; cases h), not_usable (by decide +kernel),
    ⟨24, rfl, by decide +kernel, rfl, rfl⟩, ⟨21, rfl, by decide +kernel, rfl, rfl⟩,
    ⟨22, rfl, by decide +kernel, rfl, rfl⟩, not_usable (by decide +kernel), rfl, by decide, by decide⟩

/-- Pass 1 with anchors at stations 3 and 5 alone, no other pass with any. -/
def anchored : Vector CellState 128 :=
  tab fun i =>
    if i = 35 then workedCell .good 5430 5430 0 none
    else if i = 37 then workedCell .held 5611 5611 1 none
    else CellState.reset

theorem anchored_station {p : PassNo} {x : Station} {w : Int} (h : AnchorAt workedMap.passes anchored p x w) :
    p = 1 ∧ (x = 3 ∨ x = 5) := by
  have key : ∀ (p : PassNo) (x : Station),
      anchored[cellAt p x].quality = .good ∨ anchored[cellAt p x].quality = .held → p = 1 ∧ (x = 3 ∨ x = 5) := by
    decide +kernel
  exact key p x h.2.1

/-- Station 4 lies between the anchors, station 5 above the only other one, station 1 below both; pass 0 has
none. -/
theorem witness_EstimationStage :
    NearestBelow workedMap.passes anchored 1 4 3 5430 ∧ NearestAbove workedMap.passes anchored 1 4 5 5611
    ∧ NearestBelow workedMap.passes anchored 1 5 3 5430
    ∧ (∀ y w, AnchorAt workedMap.passes anchored 1 y w → y ≤ 5)
    ∧ NearestAbove workedMap.passes anchored 1 1 3 5430
    ∧ (∀ x v, AnchorAt workedMap.passes anchored 1 x v → 1 ≤ x)
    ∧ (∀ x v, AnchorAt workedMap.passes anchored 0 x v → x = 0)
    ∧ CellState.reset.counted = false ∧ (workedCell .good 5430 5430 0 none).counted = true := by
  have a3 : AnchorAt workedMap.passes anchored 1 3 5430 :=
    ⟨by decide +kernel, .inl (by decide +kernel), by decide +kernel⟩
  have a5 : AnchorAt workedMap.passes anchored 1 5 5611 :=
    ⟨by decide +kernel, .inr (by decide +kernel), by decide +kernel⟩
  refine ⟨⟨a3, by decide, ?_⟩, ⟨a5, by decide, ?_⟩, ⟨a3, by decide, ?_⟩, ?_, ⟨a3, by decide, ?_⟩, ?_, ?_, by decide,
    by decide⟩ <;> intro x w h <;> rcases anchored_station h with ⟨hp, rfl | rfl⟩ <;> revert hp <;> decide

theorem witness_FilterAndPeakStages :
    CellState.reset.resolved = none ∧ (workedCell .good 5430 5418 0 (some 5418)).resolved = some 5430
    ∧ (workedCell .good 5430 5418 0 (some 5418)).filtered = some 5418 ∧ CellState.reset.filtered = none
    ∧ (workedCell .good 5430 5418 0 (some 5418)).counted = true ∧ CellState.reset.counted = false
    ∧ (workedCell .good 5430 5418 0 none).peak = none
    ∧ (workedCell .good 5430 5418 0 (some 5418)).peak = some 5418 := by decide

theorem witness_SummaryStatistics :
    CountedAt workedMap.passes anchored 1 5 5611 ∧ (∀ t f, ¬ CountedAt workedMap.passes anchored 0 t f)
    ∧ workedMap.passes[(1 : PassNo)].stations ≤ 32 := by
  refine ⟨⟨by decide +kernel, .inr (by decide +kernel), by decide +kernel⟩, fun t f h => ?_, by decide +kernel⟩
  have key : ∀ t : Station,
      ¬ (anchored[cellAt 0 t].quality = .good ∨ anchored[cellAt 0 t].quality = .held) := by decide +kernel
  exact key t h.2.1

theorem witness_RoundingAndMeans :
    (0 : Int) < 2 ∧ (3 : Int) < 4 ∧ (4 : Int) < 5
    ∧ estimate 4 (some (3, 5430)) (some (5, 5611)) = some 5521
    ∧ filterValue false 16 (some 5500) (some 5521) = some 5521
    ∧ filterValue false 1 (some 5500) (some 5521) = some 5501 := by decide

theorem witness_BandsRiseAndFall :
    Band.watch ≠ .held ∧ 1 ≤ zone4.persistence
    ∧ (∀ f ∈ [5611, 5611, 5600], bandRank .watch < bandRank (candidateBand zone4 f))
    ∧ [5611, 5611, 5600].length = zone4.persistence ∧ bandRank (candidateBand zone4 5570) ≤ bandRank .alarm := by
  decide

/-- Cells of zone 4 at stage 7: a GOOD one rising at a rate above the limit, an ESTIMATED one whose rise is
capped, and one without a valid previous value. -/
theorem witness_ClassificationStage :
    (let c : CellState := { workedCell .good 5760 5760 0 none with prevFiltered := some 5680, band := .alarm }
     c.quality ≠ .void ∧ c.filtered = some 5760 ∧ c.prevValid = true ∧ c.prevFiltered = some 5680
     ∧ zone4.rateLimit = some 120 ∧ c.flags.rate = false
     ∧ (120 : Int) < roundDiv ((5760 - 5680) * 60) emptyImage.interval)
    ∧ (let c : CellState := { workedCell .estimated 5650 5650 0 none with band := .watch, riseCount := 2 }
       c.quality = .estimated ∧ (riseOrFall zone4 5650 c.band c.riseCount).1 = .alarm ∧ c.prevValid = false)
    ∧ zone4.discrepancy = none
    ∧ ({ zone4 with discrepancy := some 1 } : ZoneRecord).discrepancy = some 1
    ∧ (1 : Int) < ((5429 - 5431 : Int).natAbs : Int)
    ∧ UsableFor workedImage.readings (some 21) (workedReading 5429 false) 5429
    ∧ UsableFor workedImage.readings (some 22) (workedReading 5431 false) 5431 :=
  ⟨by decide, by decide, rfl, rfl, by decide, ⟨21, rfl, by decide +kernel, rfl, rfl⟩,
    ⟨22, rfl, by decide +kernel, rfl, rfl⟩⟩

/-- The check table on each of its rows, at a persistence of 3, and VOID and other cells. -/
theorem witness_ChecksOfStages7And8 :
    CheckTable 3 (2 < 3) 2 false 3 true ∧ CheckTable 3 (3 < 3) 2 false 0 false ∧ CheckTable 3 (2 < 3) 3 true 3 true
    ∧ CheckTable 3 (3 < 3) 3 true 0 false ∧ CellState.reset.quality = .void
    ∧ (workedCell .good 5430 5418 0 none).quality ≠ .void
    ∧ (let e : PassEntry := { PassEntry.default with spreadLimit := some 100 }
       e.held = false ∧ e.spreadLimit.isSome = true ∧ ({ e with held := true } : PassEntry).held = true
       ∧ PassEntry.default.spreadLimit = none) := by
  simp [CheckTable, CellState.reset, workedCell, PassEntry.default]

theorem witness_TrendSetAllocates :
    State.reset.takes .control .trendSet ∧ (inState .running State.reset).op.state ≠ .stopped
    ∧ State.reset.op.state = .stopped ∧ 4 ≤ (4 : Byte).toNat ∧ (9 : Byte).toNat ∉ [8, 16, 32, 64, 128]
    ∧ 1 < (2 : Byte).toNat ∧ TrendAsked 0 7 7 7 .off ∧ TrendAsked 2 255 9 9 (.paired 255)
    ∧ TrendAsked 3 128 128 1 (.ring 128 .r128 true)
    ∧ (∀ n < 300, inAllocation (.ring 128 .r128 false) n = true → n < 256)
    ∧ inAllocation (.ring 129 .r128 false) 256 = true :=
  ⟨⟨rfl, rfl, .inl rfl⟩, by decide, rfl, by decide, by decide, by decide, rfl, ⟨rfl, rfl⟩, ⟨rfl, rfl, rfl, rfl⟩,
    by decide +kernel, by decide⟩

/-- The ring of section 7.9 with one frame taken. -/
def oneFrame : Trend :=
  ((Trend.reset.configure 0 (.ring 40 .r8 true)).take (frame 0 101 .good)).1

theorem witness_TrendReadReturnsStoredFrame :
    ({ State.reset with trend := oneFrame } : State).takes .control .trendRead
    ∧ (oneFrame.frameOfAge 0 0).map (fun f => f.summary.stations) = some 32 ∧ (31 : Byte).toNat < 32
    ∧ storedFrames oneFrame.passes[(0 : PassNo)] ≤ (1 : Byte).toNat :=
  ⟨⟨rfl, rfl, .inl rfl⟩, by decide +kernel, by decide, by decide +kernel⟩

theorem witness_RingAgesMoveByOne :
    oneFrame.passes[(0 : PassNo)].config = .ring 40 .r8 true ∧ 40 + ringSlots .r8 ≤ 256
    ∧ PositionLaw oneFrame.passes[(0 : PassNo)]
    ∧ frameValid (frame 0 102 .good) = true ∧ frameValid (frame 0 103 .void) = false := by
  refine ⟨by decide +kernel, by decide, ?_, by decide +kernel, by decide +kernel⟩
  have h : oneFrame.passes[(0 : PassNo)] = ⟨.ring 40 .r8 true, 1, 1, .first, 0⟩ := by decide +kernel
  rw [h]
  exact ⟨by decide, by decide, by decide⟩

/-- A ring one frame before its midpoint and one before its end, a snapshot, a pair and an OFF pass, whose
positions obey their law. -/
theorem witness_TrendTaking :
    PositionLaw ⟨.ring 40 .r8 true, 3, 3, .first, 0⟩ ∧ 3 + 1 = ringSlots .r8 / 2
    ∧ PositionLaw ⟨.ring 40 .r8 true, 7, 8, .first, 0⟩ ∧ 7 + 1 = ringSlots .r8
    ∧ PositionLaw (PassTrend.emptied (.snapshot 255)) ∧ PositionLaw (PassTrend.emptied (.paired 254))
    ∧ (254 : Fin 256).val + 2 ≤ 256 ∧ PositionLaw (PassTrend.emptied .off)
    ∧ inAllocation (.paired 254) 253 = false := by
  simp [PositionLaw, PassTrend.emptied, ringSlots, inAllocation, allocation]

theorem logLaw_wrapped : LogLaw wrappedLog := by
  refine ⟨by decide, fun d => ?_⟩
  have h : ((20 + 256 - 256 + d.val) % 256 + 256 - 20) % 256 = d.val := by omega
  show if d.val < 256 then _ else _
  rw [if_pos d.isLt]
  refine ⟨_, by simp only [wrappedLog, Fin.getElem_fin, tab_get]; rfl, ?_⟩
  show 65500 + BitVec.ofNat 16 (((20 + 256 - 256 + d.val) % 256 + 256 - 20) % 256) = _
  rw [h]
  rfl

theorem witness_LogReadReturnsConsecutiveRecords :
    logged.takes .control .logRead ∧ LogLaw logged.log
    ∧ (((0xFF : Byte) ++ (0xFA : Byte)) - logged.log.oldest).toNat = 30
    ∧ (((0x00 : Byte) ++ (0xDC : Byte)) - logged.log.oldest).toNat = logged.log.count
    ∧ (((0x7D : Byte) ++ (0x00 : Byte)) - logged.log.oldest).toNat = 32036
    ∧ (((0x80 : Byte) ++ (0xE8 : Byte)) - logged.log.oldest).toNat = 33036 :=
  ⟨⟨rfl, rfl, .inl rfl⟩, logLaw_wrapped, by decide, by decide, by decide, by decide⟩

theorem witness_LogTakesAndClears :
    State.reset.log.count < 256 ∧ logged.log.count = 256 ∧ logged.takes .control .logClear :=
  ⟨by decide, rfl, ⟨rfl, rfl, .inl rfl⟩⟩

theorem witness_NoticeArrivalCases :
    (upd State.reset.notices.kinds 9 fun _ => ⟨true, none⟩)[noticeIndex .scanLate].masked = true
    ∧ queued.notices.kinds[noticeIndex .passClosed].masked = false
    ∧ (∃ e ∈ queued.notices.queue, e.notice = ⟨.passClosed, some 1⟩)
    ∧ (∀ e ∈ queued.notices.queue, e.notice ≠ ⟨.limitEntered, some 45⟩)
    ∧ 32 ≤ queued.notices.queue.length ∧ State.reset.notices.queue.length < 32
    ∧ queued.notices.queue = [] ++ entry .passClosed 0 :: queued.notices.queue.tail
    ∧ (∀ x ∈ queued.notices.queue, (entry .passClosed 0).level ≤ x.level)
    ∧ (∀ x ∈ List.replicate 32 (entry .alarmEntered 45), noticeLevel .passClosed < x.level) := by
  decide +kernel

theorem witness_NoticeTakeReturnsHighestOldest : queued.takes .control .noticeTake := ⟨rfl, rfl, .inl rfl⟩

/-- A kind that is masked with a pending record: PASS_CLOSED, whose matter is queued, and LIMIT_ENTERED, which
has room, displaces a lower level, or is lost to higher ones. -/
theorem witness_MaskAndAttentionRequests :
    State.reset.takes .control .noticeMaskSet ∧ State.reset.takes .control .attentionSet
    ∧ 16 ≤ (16 : Byte).toNat ∧ (15 : Byte) = noticeKindByte .timeWrap ∧ 3 < (4 : Byte).toNat
    ∧ (3 : Byte) = put8 (3 : Fin 4).val
    ∧ (∀ k ∈ noticeKinds,
        let e := (upd State.reset.notices.kinds (noticeIndex k) fun _ => ⟨true, some ⟨some 1, 3, 0⟩⟩)[noticeIndex k]
        e.masked = true ∧ e.pending = some ⟨some 1, 3, 0⟩) :=
  ⟨⟨rfl, rfl, .inl rfl⟩, ⟨rfl, rfl, .inl rfl⟩, by decide, by decide, by decide, by decide, by decide +kernel⟩

/-- A released entry in each case of R153: its matter queued, room, a lower level to displace, none. -/
theorem witness_PendingReleased :
    let released (k : NoticeKind) (n : Nat) : QueueEntry := ⟨⟨k, some n⟩, 3, true, 0⟩
    (∃ e ∈ queued.notices.queue, e.notice = (released .passClosed 1).notice)
    ∧ (∀ e ∈ queued.notices.queue, e.notice ≠ (released .limitEntered 45).notice)
    ∧ State.reset.notices.queue.length < 32 ∧ 32 ≤ queued.notices.queue.length
    ∧ queued.notices.queue = [] ++ entry .passClosed 0 :: queued.notices.queue.tail
    ∧ (∀ x ∈ queued.notices.queue, (entry .passClosed 0).level ≤ x.level)
    ∧ (entry .passClosed 0).level ≤ (released .limitEntered 45).level
    ∧ (∀ x ∈ List.replicate 32 (entry .alarmEntered 45), (released .passClosed 1).level < x.level) := by
  decide +kernel

theorem witness_StepKeepsLogLaw : LogLaw (withCommand .publication logged).log ∧ steps (withCommand .publication logged) :=
  ⟨logLaw_wrapped, steps_withCommand _ _ ⟨_, rfl⟩⟩

theorem witness_StepKeepsQueueLaw :
    QueueLaw (withCommand (.noticeTake .control [4]) queued).notices ∧ steps (withCommand (.noticeTake .control [4]) queued) :=
  ⟨⟨by decide +kernel, by decide +kernel, by decide +kernel, by
    intro k r h
    simp [withCommand, queued, State.reset, State.afterReset, NoticeUnit.reset] at h⟩, steps_withCommand _ _ ⟨_, rfl⟩⟩

theorem witness_StepKeepsHealthLaw :
    (∀ c : ChannelNo, HealthLaw (withCommand .powerLoss State.reset).input.channels[c])
    ∧ steps (withCommand .powerLoss State.reset) := by
  refine ⟨fun c => ?_, steps_withCommand _ _ ⟨_, rfl⟩⟩
  simp [withCommand, State.reset, State.afterReset, Input.reset, ChannelEntry.default, HealthLaw]

theorem witness_StepKeepsTrendLaw :
    TrendLaw (withCommand (.trendSet .control [0, 3, 40, 8, 1]) State.reset).trend
    ∧ steps (withCommand (.trendSet .control [0, 3, 40, 8, 1]) State.reset) :=
  ⟨trendLaw_reset, steps_withCommand _ _ ⟨_, rfl⟩⟩

theorem witness_StepKeepsScanLaw :
    ScanLaw (withCommand .answerPeriodExpiry (scanning (scan2 true) (.conversion 0 0)))
    ∧ steps (withCommand .answerPeriodExpiry (scanning (scan2 true) (.conversion 0 0))) := by
  refine ⟨⟨⟨rfl, rfl, rfl, by decide, ?_, 0, [16], ⟨.conversion 0 0, false⟩, rfl, rfl, by decide +kernel, ?_⟩,
    by decide, by intro h; cases h⟩, steps_withCommand _ _ ⟨_, rfl⟩⟩
  · intro c _
    simp [scan2]
  · intro _
    decide +kernel

theorem cellLaw_reset : CellLaw false CellState.reset := by simp [CellLaw, CellState.reset]

/-- A RUNNING part with the Map Engine READY. -/
def quietRun : State := withCommand .timeTagPeriodExpiry waitingState

theorem witness_StepKeepsMapLaw : ScanLaw quietRun ∧ MapLaw quietRun ∧ steps quietRun := by
  refine ⟨⟨⟨rfl, rfl, rfl, by intro o h; cases h⟩, by decide, by intro h; cases h⟩, ⟨fun i _ => ?_, fun _ i _ => ?_⟩,
    steps_withCommand _ _ ⟨_, rfl⟩⟩
  · simpa [quietRun, withCommand, waitingState, inState, configured, State.reset, State.afterReset, MapEngine.reset,
      PublishedMap.cleared, Summary.cleared] using cellLaw_reset
  · simpa [quietRun, withCommand, waitingState, inState, configured, State.reset, State.afterReset, MapEngine.reset,
      PassEntry.default] using cellLaw_reset

theorem witness_StepKeepsRangeLaw :
    SettingsLaw (withCommand (.scanSet .control [0, 5]) State.reset)
    ∧ RangeLaw (withCommand (.scanSet .control [0, 5]) State.reset)
    ∧ steps (withCommand (.scanSet .control [0, 5]) State.reset) := by
  have hc : CellRange CellState.reset := by simp [CellRange, InDeviceRange, CellState.reset]
  have hs := settingsLaw_reset
  refine ⟨⟨hs.routing, hs.trims, hs.curves, hs.interval, hs.substitutes, hs.passes, hs.bindings, hs.zones, hs.edits,
    hs.savedZones⟩, ⟨fun c => ?_, ?_, ?_, ?_, fun i => ?_, fun i => ?_, fun p => ?_⟩, steps_withCommand _ _ ⟨_, rfl⟩⟩
  · simp [withCommand, State.reset, State.afterReset, Input.reset, ChannelEntry.default, LastReading.reset,
      InDeviceRange]
  · intro scan h
    cases h
  · intro m h
    cases h
  · intro c h
    cases h
  · simpa [withCommand, State.reset, State.afterReset, MapEngine.reset] using hc
  · simpa [withCommand, State.reset, State.afterReset, MapEngine.reset, PublishedMap.cleared] using hc
  · simp [withCommand, State.reset, State.afterReset, MapEngine.reset, PublishedMap.cleared, Summary.cleared,
      InDeviceRange]

theorem witness_StepKeepsSettingsLaw :
    SettingsLaw State.reset ∧ steps State.reset := ⟨settingsLaw_reset, ⟨_, rfl⟩⟩

/-! ### A whole publication -/

/-- The published map of section 5.11, stage 9: the cells of pass 1, its summary and its flags. -/
theorem test_publication :
    gives .publication workedState (fun t =>
      let m := t.map.published.summaries[(1 : PassNo)]
      (([32, 33, 34, 35, 36, 37] : List CellIndex).map fun i => cellRow t.map.published.cells[i]) ==
      [(.good, some 5120, some 5113, .normal, 0, some 5140), (.estimated, some 5223, some 5213, .normal, 0, none),
       (.estimated, some 5327, some 5329, .normal, 0, none), (.good, some 5430, some 5421, .normal, 0, some 5421),
       (.estimated, some 5521, some 5505, .normal, 2, some 5540), (.good, some 5611, some 5603, .normal, 0, some 5655)]
      && decide (m.scanNumber = 4412 ∧ m.timeTag = 884300 ∧ m.stations = 6 ∧ m.hottestStation = some 5
        ∧ m.hottestValue = some 5603 ∧ m.coolestStation = some 0 ∧ m.coolestValue = some 5113
        ∧ m.mean = some 5379 ∧ m.spread = some 224 ∧ m.goodCount = 3 ∧ m.heldCount = 0 ∧ m.estimatedCount = 3
        ∧ m.voidCount = 0)
      && t.map.published.cells[(37 : CellIndex)].flags.secondaryUsed
      && t.map.published.cells[(32 : CellIndex)].flags.cjHeld) = true := by decide +kernel

end Sys2Proof.Tests
end

section
/-! PROOF. Requests in general: the reply and the refusal of a taken request, and the default permission table (R170, R172). -/

namespace Sys2Proof.Machine

variable {s : State} {p : Port} {k : RequestKind} {pl : List Byte}

/-- A taken request whose owner answers DONE with data, the state as it was, is replied with that data. -/
theorem exec_of_doneWith (h : s.takes p k) (hl : lengthOk k pl.length = true) {data : List Byte}
    (hd : serveKind k p pl s = doneWith data s) :
    exec (k.command p pl) s = .next (s.replied p k .done data) := by
  rw [exec_taken h hl, hd]; rfl

/-- A taken request whose owner answers RANGE is refused with RANGE. -/
theorem exec_of_range (h : s.takes p k) (hl : lengthOk k pl.length = true)
    (hr : serveKind k p pl s = answer .range s) :
    exec (k.command p pl) s = .next (s.refused p k .range) := by
  rw [exec_taken h hl, hr, ← replied_refused s p k (by decide : ResultCode.range ≠ .done)]; rfl

theorem mem_requestKinds (k : RequestKind) : k ∈ RequestKind.all := by cases k <;> decide

/-- The default permission table permits just the read kinds (R172). -/
theorem defaultPermits_get (k : RequestKind) : defaultPermits[kindIndex k] = isReadKind k := by
  have hk : RequestKind.all[(kindIndex k).val]? = some k := List.getElem?_idxOf (mem_requestKinds k)
  simp only [defaultPermits, Fin.getElem_fin, tab_get, hk, Option.elim_some]

/-- Power-on permits just the read kinds on the maintenance port (R172). -/
theorem byDefault_isReadKind (k : RequestKind) : ByDefault k (isReadKind k) :=
  fun _ _ => ⟨_, rfl, defaultPermits_get k⟩

end Sys2Proof.Machine
end

section
/-! PROOF. The reads of the published map (R14, R16 to R18): CELL_GET, MAP_READ and PASS_SUMMARY. -/

namespace Sys2Proof.Machine

variable {s : State}

/-! ### CELL_GET (R18) -/

/-- A cell index sent in one byte names its cell just where the cell is present. -/
theorem presentCell_put8 (passes : Vector PassEntry 4) (i : CellIndex) :
    presentCell passes (put8 i.val).toNat = if isPresent passes i then some i else none := by
  rw [presentCell, below_put8 (by decide) i, Option.filter_some]

/-- A byte above 127, and one that names an absent cell, name no present cell. -/
theorem presentCell_eq_none {passes : Vector PassEntry 4} {b : Byte}
    (h : 128 ≤ b.toNat ∨ ∃ i : CellIndex, b = put8 i.val ∧ isPresent passes i = false) :
    presentCell passes b.toNat = none := by
  rcases h with h | ⟨i, rfl, hi⟩
  · rw [presentCell, below_none.2 h, Option.filter_none]
  · rw [presentCell_put8, hi]; rfl

theorem cellState_of_present {m : PublishedMap} {i : CellIndex} (h : m.isPresent i = true) :
    m.cellState i = m.cells[i] := if_pos h

theorem cellState_of_absent {m : PublishedMap} {i : CellIndex} (h : m.isPresent i = false) :
    m.cellState i = { CellState.reset with scanNumber := m.summaries[passOf i].scanNumber } := by
  simp [PublishedMap.cellState, h]

/-- A cell absent in the published map is read with no flags. -/
theorem cellFlagsByte_of_absent {m : PublishedMap} {i : CellIndex} (h : m.isPresent i = false) :
    cellFlagsByte (m.cellState i).flags = 0 := by
  have hnone : cellFlagsByte CellFlags.none = 0 := by decide
  rw [cellState_of_absent h]
  exact hnone

theorem serveCellGet_present {i : CellIndex} (h : isPresent s.map.passes i = true) :
    serveCellGet [put8 i.val] s = doneWith (bindingBytes i s.map.bindings[i]
      ++ cellStateBytes (cellFlagsByte (s.map.published.cellState i).flags) (s.map.published.cellState i)) s := by
  simp only [serveCellGet, u8_zero, presentCell_put8, h, if_true]

theorem serveCellGet_range {b : Byte} (h : presentCell s.map.passes b.toNat = none) :
    serveCellGet [b] s = answer .range s := by
  simp only [serveCellGet, u8_zero, h]

/-! ### MAP_READ (R16) -/

/-- The numbers of a window that lies below a bound are the window itself. -/
theorem filter_range_window {a n bound : Nat} (h : a + n ≤ bound) :
    ((List.range bound).filter fun t => a ≤ t && t < a + n) = List.range' a n := by
  have hsplit : List.range bound = List.range' 0 a ++ List.range' a n ++ List.range' (a + n) (bound - (a + n)) := by
    have hfront : List.range' 0 a ++ List.range' a n = List.range' 0 (a + n) := by
      simpa using List.range'_append_1 (s := 0) (m := a) (n := n)
    have hall : List.range' 0 (a + n) ++ List.range' (a + n) (bound - (a + n)) = List.range' 0 bound := by
      simpa [Nat.add_sub_of_le h] using List.range'_append_1 (s := 0) (m := a + n) (n := bound - (a + n))
    rw [hfront, hall, List.range_eq_range']
  have hlow : ((List.range' 0 a).filter fun t => a ≤ t && t < a + n) = [] := by
    simp [List.filter_eq_nil_iff, List.mem_range'_1]; omega
  have hmid : ((List.range' a n).filter fun t => a ≤ t && t < a + n) = List.range' a n := by
    simp [List.filter_eq_self, List.mem_range'_1]
  have hhigh : ((List.range' (a + n) (bound - (a + n))).filter fun t => a ≤ t && t < a + n) = [] := by
    simp [List.filter_eq_nil_iff, List.mem_range'_1]; omega
  rw [hsplit, List.filter_append, List.filter_append, hlow, hmid, hhigh, List.nil_append, List.append_nil]

/-- The cell of a station of a pass stands at its index in the list of all cells (R2). -/
theorem cells_getD_cellAt (cells : Vector CellState 128) (p : PassNo) (t : Station) (d : CellState) :
    cells.toList.getD (p.val * 32 + t.val) d = cells[cellAt p t] := by
  have h : p.val * 32 + t.val < cells.toList.length := by rw [Vector.length_toList]; omega
  rw [List.getD_eq_getElem _ _ h, Vector.getElem_toList]
  rfl

/-- The run of MAP_READ counts up from its first station, record by record. -/
theorem run_eq_range (m : PublishedMap) (p : PassNo) {first n : Nat} (h : first + n ≤ 32) :
    m.run p first n = (List.range n).map fun j =>
      (first + j, m.cells.toList.getD (p.val * 32 + first + j) CellState.reset) := by
  have hcells : m.run p first n =
      (((List.finRange 32).map Fin.val).filter fun t => first ≤ t && t < first + n).map fun t =>
        (t, m.cells.toList.getD (p.val * 32 + t) CellState.reset) := by
    rw [List.filter_map, List.map_map]
    exact List.map_congr_left fun t _ => by simp only [Function.comp_apply, cells_getD_cellAt]
  rw [hcells, List.map_coe_finRange_eq_range, filter_range_window h, List.range'_eq_map_range, List.map_map]
  exact List.map_congr_left fun j _ => by simp only [Function.comp_apply, Nat.add_assoc]

theorem add_runLength_le {m : PublishedMap} {p : PassNo} {first count : Nat}
    (hf : first < m.summaries[p].stations) (h32 : m.summaries[p].stations ≤ 32) :
    first + m.runLength p first count ≤ 32 := by
  unfold PublishedMap.runLength
  omega

theorem serveMapRead_done {p : PassNo} {first count : Byte}
    (hf : first.toNat < s.map.published.summaries[p].stations)
    (h32 : s.map.published.summaries[p].stations ≤ 32) :
    serveMapRead [put8 p.val, first, count] s = doneWith
      (let m := s.map.published
       let n := m.runLength p first.toNat count.toNat
       put32 m.summaries[p].scanNumber ++ [put8 p.val, first, put8 n]
        ++ (List.range n).flatMap fun j =>
            let c := m.cells.toList.getD (p.val * 32 + first.toNat + j) CellState.reset
            cellRecordBytes (first.toNat + j) (cellFlagsByte c.flags) c) s := by
  have hfirst : put8 first.toNat = first := by simp [put8]
  simp only [serveMapRead, u8_zero, u8_succ, below_put8 (by decide : 4 ≤ 256) p, if_neg (Nat.not_le.2 hf), hfirst,
    run_eq_range _ _ (add_runLength_le hf h32), List.flatMap_map]

theorem serveMapRead_range {b first count : Byte}
    (h : 4 ≤ b.toNat ∨ ∃ p : PassNo, b = put8 p.val ∧ s.map.published.summaries[p].stations ≤ first.toNat) :
    serveMapRead [b, first, count] s = answer .range s := by
  rcases h with h | ⟨p, rfl, hp⟩
  · simp only [serveMapRead, u8_zero, below_none.2 h]
  · simp only [serveMapRead, u8_zero, u8_succ, below_put8 (by decide : 4 ≤ 256) p]
    exact if_pos hp

/-! ### PASS_SUMMARY (R17) -/

theorem selectedPasses_put8 (p : PassNo) : selectedPasses (put8 p.val).toNat = some [p] := by
  have hne : (put8 p.val).toNat ≠ 4 := by rw [put8_toNat]; omega
  rw [selectedPasses, if_neg hne, below_put8 (by decide) p, Option.map_some]

theorem selectedPasses_four : selectedPasses (4 : Byte).toNat = some (List.finRange 4) := rfl

theorem selectedPasses_of_lt {x : Nat} (h : 4 < x) : selectedPasses x = none := by
  rw [selectedPasses, if_neg h.ne', below_none.2 h.le, Option.map_none]

theorem servePassSummary_selected {b : Byte} {ps : List PassNo} (h : selectedPasses b.toNat = some ps) :
    servePassSummary [b] s = doneWith (ps.flatMap fun p => summaryBytes p s.map.published.summaries[p]) s := by
  simp only [servePassSummary, u8_zero, h]

theorem servePassSummary_range {b : Byte} (h : 4 < b.toNat) : servePassSummary [b] s = answer .range s := by
  simp only [servePassSummary, u8_zero, selectedPasses_of_lt h]

/-! ### The replies -/

/-- Settles O38: each owner's answer in its cases, put through the taking of a request. The records of
MAP_READ are the run's, counted up from its first station. -/
theorem mapReads : Obligations.MapReads := by
  intro s port
  refine ⟨fun ht => ⟨fun i hi hp => ?_, fun i hi hp => ?_, fun b hb => ?_⟩,
    fun ht => ⟨fun p first count hf h32 => ?_, fun b first count hb => ?_⟩,
    fun ht => ⟨fun p => ?_, ?_, fun b hb => ?_⟩,
    byDefault_isReadKind .cellGet, byDefault_isReadKind .mapRead, byDefault_isReadKind .passSummary⟩
  · have hserve := serveCellGet_present hi
    rw [cellState_of_present hp] at hserve
    exact exec_of_doneWith ht rfl hserve
  · have hserve := serveCellGet_present hi
    rw [cellFlagsByte_of_absent hp, cellState_of_absent hp] at hserve
    exact exec_of_doneWith ht rfl hserve
  · exact exec_of_range ht rfl (serveCellGet_range (presentCell_eq_none hb))
  · exact exec_of_doneWith ht rfl (serveMapRead_done hf h32)
  · exact exec_of_range ht rfl (serveMapRead_range hb)
  · have hserve := servePassSummary_selected (s := s) (selectedPasses_put8 p)
    rw [List.flatMap_singleton] at hserve
    exact exec_of_doneWith ht rfl hserve
  · exact exec_of_doneWith ht rfl (servePassSummary_selected selectedPasses_four)
  · exact exec_of_range ht rfl (servePassSummary_range hb)

end Sys2Proof.Machine
end

section
/-! PROOF. Requests in general: an answer of DONE without data and a refusal of any code; two-byte signed fields and yes-or-no fields of a payload. -/

namespace Sys2Proof.Machine

variable {s t : State} {p : Port} {k : RequestKind} {pl : List Byte}

/-- A taken request whose owner answers DONE without data is replied with that in the owner's state. -/
theorem exec_of_done (h : s.takes p k) (hl : lengthOk k pl.length = true)
    (hd : serveKind k p pl s = answer .done t) :
    exec (k.command p pl) s = .next (t.replied p k .done []) := by
  rw [exec_taken h hl, hd]; rfl

/-- A taken request whose owner answers another code than DONE is refused with that code. -/
theorem exec_of_refusal (h : s.takes p k) (hl : lengthOk k pl.length = true) {code : ResultCode}
    (hc : code ≠ .done) (hr : serveKind k p pl s = answer code s) :
    exec (k.command p pl) s = .next (s.refused p k code) := by
  rw [exec_taken h hl, hr, ← replied_refused s p k hc]; rfl

@[simp] theorem s16_zero (hi lo : Byte) (pl : List Byte) : s16 (hi :: lo :: pl) 0 = (hi ++ lo).toInt :=
  s16_eq _ 0

@[simp] theorem s16_succ (b : Byte) (pl : List Byte) (i : Nat) : s16 (b :: pl) (i + 1) = s16 pl i := rfl

/-- A yes-or-no field that is one of the two says yes just when it is 1. -/
theorem yesNo_of_le {flag : Byte} (h : flag.toNat ≤ 1) : yesNo flag.toNat = some (flag == 1) := by
  have hflag : flag = 0 ∨ flag = 1 := by bv_omega
  rcases hflag with rfl | rfl <;> rfl

end Sys2Proof.Machine
end

section
/-! PROOF. CHANNEL_SET and CHANNEL_ENABLE (R25 to R27): what their owners answer in each case. -/

namespace Sys2Proof.Machine

variable {s : State} {c : ChannelNo} {card : CardNo} {input : Fin 16} {curve : Fin 4}

/-- The search over the channels finds a conflict just where another enabled channel has the input (R25). -/
theorem routingConflict_iff :
    routingConflict s.input.channels c card input = true ↔ RoutingTaken s c card input := by
  simp [routingConflict, RoutingTaken, and_assoc]

theorem routingConflict_eq_false :
    routingConflict s.input.channels c card input = false ↔ ¬ RoutingTaken s c card input := by
  rw [← routingConflict_iff, Bool.not_eq_true]

/-- The low clamp lies under the high one, so each of the two needs one bound only (R26). -/
theorem channelSettingsOk_iff {gain offset low high : Int} :
    channelSettingsOk gain offset low high = true ↔
      9000 ≤ gain ∧ gain ≤ 11000 ∧ -500 ≤ offset ∧ offset ≤ 500 ∧ -500 ≤ low ∧ low < high ∧ high ≤ 12000 := by
  simp only [channelSettingsOk, Bool.and_eq_true, within_iff, decide_eq_true_eq]
  omega

/-! ### CHANNEL_SET (R26) -/

theorem serveChannelSet_state {pl : List Byte} (h : s.op.state ≠ .stopped) :
    serveChannelSet pl s = answer .state s := if_pos h

/-- One field out of range is enough. -/
theorem serveChannelSet_range {pl : List Byte} (hs : s.op.state = .stopped)
    (h : 96 ≤ u8 pl 0 ∨ 6 ≤ u8 pl 1 ∨ 16 ≤ u8 pl 2 ∨ 4 ≤ u8 pl 3
      ∨ channelSettingsOk (s16 pl 4) (s16 pl 6) (s16 pl 8) (s16 pl 10) = false) :
    serveChannelSet pl s = answer .range s := by
  rw [serveChannelSet, if_neg (not_not.2 hs)]
  split
  next h0 h1 h2 h3 =>
    have hok : channelSettingsOk (s16 pl 4) (s16 pl 6) (s16 pl 8) (s16 pl 10) = false := by
      simpa [← below_none, h0, h1, h2, h3] using h
    rw [hok]; rfl
  next => rfl

/-- With all fields in range only the routing decides. -/
theorem serveChannelSet_inRange {pl : List Byte} (hs : s.op.state = .stopped)
    (h0 : below 96 (u8 pl 0) = some c) (h1 : below 6 (u8 pl 1) = some card)
    (h2 : below 16 (u8 pl 2) = some input) (h3 : below 4 (u8 pl 3) = some curve)
    (hok : channelSettingsOk (s16 pl 4) (s16 pl 6) (s16 pl 8) (s16 pl 10) = true) :
    serveChannelSet pl s =
      if s.input.channels[c].enabled && routingConflict s.input.channels c card input then answer .conflict s
      else answer .done (s.updChannel c fun e =>
        { e with
          card := card, input := input, curve := curve
          gain := s16 pl 4, offset := s16 pl 6, lowClamp := s16 pl 8, highClamp := s16 pl 10 }) := by
  rw [serveChannelSet, if_neg (not_not.2 hs)]
  simp only [h0, h1, h2, h3, hok]
  rfl

theorem channelSetWrites : ChannelSetWrites := by
  intro p s b0 b1 b2 b3 g1 g0 o1 o0 l1 l0 h1 h0 ht pl gain offset low high trimOk
  have hok : channelSettingsOk (s16 pl 4) (s16 pl 6) (s16 pl 8) (s16 pl 10) = true ↔ trimOk := by
    simp only [pl, s16_succ, s16_zero]
    exact channelSettingsOk_iff
  refine ⟨fun hs => ?_, fun hs hrange => ?_, fun c card input curve hs e0 e1 e2 e3 htrim => ?_⟩
  · exact exec_of_refusal ht rfl (by decide) (serveChannelSet_state hs)
  · rw [← hok, Bool.not_eq_true] at hrange
    exact exec_of_range ht rfl (serveChannelSet_range hs hrange)
  · have hserve := serveChannelSet_inRange (pl := pl) hs (e0 ▸ below_put8 (by decide) c)
      (e1 ▸ below_put8 (by decide) card) (e2 ▸ below_put8 (by decide) input)
      (e3 ▸ below_put8 (by decide) curve) (hok.2 htrim)
    refine ⟨fun hen htaken => ?_, fun hfree => ?_⟩
    · rw [hen, routingConflict_iff.2 htaken] at hserve
      exact exec_of_refusal ht rfl (by decide) hserve
    · have hnone : (s.input.channels[c].enabled && routingConflict s.input.channels c card input) = false := by
        rwa [Bool.and_eq_false_iff, routingConflict_eq_false]
      rw [hnone] at hserve
      simp only [pl, s16_succ, s16_zero] at hserve
      exact exec_of_done ht rfl hserve

/-! ### CHANNEL_ENABLE (R27) -/

theorem serveChannelEnable_range {b flag : Byte} (h : 96 ≤ b.toNat ∨ 1 < flag.toNat) :
    serveChannelEnable [b, flag] s = answer .range s := by
  simp only [serveChannelEnable, u8_zero, u8_succ]
  split
  next hb hflag => simp [← below_none, ← yesNo_none, hb, hflag] at h
  next => rfl

/-- Only enabling a disabled channel can conflict. -/
theorem serveChannelEnable_inRange {flag : Byte} (h : flag.toNat ≤ 1) :
    serveChannelEnable [put8 c.val, flag] s =
      if flag == 1 && !s.input.channels[c].enabled
        && routingConflict s.input.channels c s.input.channels[c].card s.input.channels[c].input
      then answer .conflict s else answer .done (s.updChannel c fun e => { e with enabled := flag == 1 }) := by
  simp only [serveChannelEnable, u8_zero, u8_succ, below_put8 (by decide : 96 ≤ 256) c, yesNo_of_le h]

theorem channelEnableWrites : ChannelEnableWrites := by
  intro p s b flag ht
  refine ⟨fun hrange => exec_of_range ht rfl (serveChannelEnable_range hrange), ?_⟩
  rintro c rfl hflag
  have hserve := serveChannelEnable_inRange (s := s) (c := c) hflag
  refine ⟨fun hyes hdis htaken => ?_, fun hfree => ?_⟩
  · rw [hyes, hdis, routingConflict_iff.2 htaken] at hserve
    subst hyes
    exact exec_of_refusal ht rfl (by decide) hserve
  · have hnone : (flag == 1 && !s.input.channels[c].enabled
        && routingConflict s.input.channels c s.input.channels[c].card s.input.channels[c].input) = false := by
      rcases hfree with rfl | hen | hnot
      · rfl
      · rw [hen, Bool.not_true, Bool.and_false, Bool.false_and]
      · rw [routingConflict_eq_false.2 hnot, Bool.and_false]
    rw [hnone] at hserve
    exact exec_of_done ht rfl hserve

/-- Settles O24: the owners' answers, put through the taking of a request. -/
theorem channelSetAndEnable : Obligations.ChannelSetAndEnable := ⟨channelSetWrites, channelEnableWrites⟩

end Sys2Proof.Machine
end

section
/-! PROOF. The reads of the Input Processor (R29, R66, R72): CHANNEL_GET, CHANNEL_STATUS and CARD_STATUS. -/

namespace Sys2Proof.Machine

variable {s : State}

/-- The marks of a reading as a number: CLAMPED counts 1, CJ_HELD 2 (section 11.6). -/
theorem marksByte_eq (clamped cjHeld : Bool) :
    marksByte clamped cjHeld = BitVec.ofNat 8 ((if clamped then 1 else 0) + (if cjHeld then 2 else 0)) := by
  cases clamped <;> cases cjHeld <;> rfl

theorem serveChannelGet_put8 (c : ChannelNo) :
    serveChannelGet [put8 c.val] s = doneWith (channelGetBytes c s.input.channels[c]) s := by
  simp only [serveChannelGet, u8_zero, below_put8 (by decide : 96 ≤ 256) c]

theorem serveChannelGet_range {b : Byte} (h : 96 ≤ b.toNat) : serveChannelGet [b] s = answer .range s := by
  simp only [serveChannelGet, u8_zero, below_none.2 h]

theorem serveChannelStatus_put8 (c : ChannelNo) :
    serveChannelStatus [put8 c.val] s = doneWith (channelStatusBytes c s.input.channels[c]) s := by
  simp only [serveChannelStatus, u8_zero, below_put8 (by decide : 96 ≤ 256) c]

theorem serveChannelStatus_range {b : Byte} (h : 96 ≤ b.toNat) :
    serveChannelStatus [b] s = answer .range s := by
  simp only [serveChannelStatus, u8_zero, below_none.2 h]

theorem serveCardStatus_put8 (k : CardNo) :
    serveCardStatus [put8 k.val] s = doneWith (cardStatusBytes k s.input.cards[k]) s := by
  simp only [serveCardStatus, u8_zero, below_put8 (by decide : 6 ≤ 256) k]

theorem serveCardStatus_range {b : Byte} (h : 6 ≤ b.toNat) : serveCardStatus [b] s = answer .range s := by
  simp only [serveCardStatus, u8_zero, below_none.2 h]

/-- Settles O26: each owner's answer for a number that is one and for one that is none, put through the
taking of a request. -/
theorem inputReads : Obligations.InputReads := by
  intro p s
  refine ⟨fun ht => ⟨fun c => exec_of_doneWith ht rfl (serveChannelGet_put8 c),
      fun b hb => exec_of_range ht rfl (serveChannelGet_range hb)⟩,
    fun ht => ⟨fun c => ?_, fun b hb => exec_of_range ht rfl (serveChannelStatus_range hb)⟩,
    fun ht => ⟨fun k => exec_of_doneWith ht rfl (serveCardStatus_put8 k),
      fun b hb => exec_of_range ht rfl (serveCardStatus_range hb)⟩,
    byDefault_isReadKind .channelGet, byDefault_isReadKind .channelStatus, byDefault_isReadKind .cardStatus⟩
  have hserve := serveChannelStatus_put8 (s := s) c
  rw [channelStatusBytes, marksByte_eq] at hserve
  exact exec_of_doneWith ht rfl hserve

end Sys2Proof.Machine
end

section
/-! PROOF. A request of a length that is none of its kind's is refused with FORMAT; fields behind the first bytes of a payload. -/

namespace Sys2Proof.Machine

/-- A request that passes all checks but that of its length is refused with FORMAT (R170). -/
theorem exec_of_badLength {s : State} {p : Port} {k : RequestKind} {pl : List Byte} (h : s.takes p k)
    (hl : lengthOk k pl.length = false) :
    exec (k.command p pl) s = .next (s.refused p k .format) := by
  obtain ⟨hop, hreply, hpermit⟩ := h
  have hp : (decide (p = .maintenance) && !s.link.permitted k) = false := by
    rcases hpermit with rfl | hk
    · rfl
    · rw [hk, Bool.not_true, Bool.and_false]
  rw [exec_command]
  simp [State.takeRequest, State.listening, State.refused, hop, hreply, hp, hl]

theorem u8_append_right (front rest : List Byte) (i : Nat) : u8 (front ++ rest) (front.length + i) = u8 rest i := by
  rw [u8, List.getD_append_right _ _ _ _ (Nat.le_add_right _ _), Nat.add_sub_cancel_left, u8]

theorem u16_append_right (front rest : List Byte) (i : Nat) :
    u16 (front ++ rest) (front.length + i) = u16 rest i := by
  rw [u16, Nat.add_assoc, u8_append_right, u8_append_right, u16]

theorem s16_append_right (front rest : List Byte) (i : Nat) :
    s16 (front ++ rest) (front.length + i) = s16 rest i := by
  rw [s16, u16_append_right, s16]

theorem s32_append_right (front rest : List Byte) (i : Nat) :
    s32 (front ++ rest) (front.length + i) = s32 rest i := by
  rw [s32, u32, Nat.add_assoc, u16_append_right, u16_append_right, s32, u32]

/-- A four-byte signed field sent is read back. -/
theorem s32_put32 (x : Int) (h : -2147483648 ≤ x ∧ x ≤ 2147483647) (rest : List Byte) :
    s32 (put32 (BitVec.ofInt 32 x) ++ rest) 0 = x := by
  rw [s32, u32_put32, BitVec.toInt_ofInt, Int.bmod_def]
  omega

end Sys2Proof.Machine
end

section
/-! PROOF. CURVE_SET and CURVE_GET (R42, R43, R45): the law of a curve set, the bytes of its breakpoints, and what the two owners answer. -/

namespace Sys2Proof.Machine

variable {s : State} {n : Fin 4} {b count : Byte} {rest pl : List Byte} {curve : List Breakpoint}

/-! ### The law of a loaded curve set (R42) -/

/-- The neighbours increase just where every pair does. -/
theorem increasing_iff (l : List Int) : increasing l = true ↔ l.Pairwise (· < ·) := by
  rw [← List.isChain_iff_pairwise]
  induction l using increasing.induct with
  | case1 a b rest ih => rw [increasing, Bool.and_eq_true, decide_eq_true_eq, ih, List.isChain_cons_cons]
  | case2 l hl =>
    match l, hl with
    | [], _ => simp [increasing]
    | [a], _ => simp [increasing]
    | a :: b :: rest, hl => exact absurd rfl (hl a b rest)

/-- The owner's check of a list is the law of R42 for a list that is not empty. -/
theorem curveOk_iff : curveOk curve = true ↔ curve ≠ [] ∧ CurveLaw curve := by
  have hne : 2 ≤ curve.length → curve ≠ [] := by rintro h rfl; exact absurd h (by decide)
  simp only [curveOk, Bool.and_eq_true, decide_eq_true_eq, List.all_eq_true, within_iff, increasing_iff,
    List.pairwise_map]
  constructor
  · rintro ⟨⟨⟨⟨⟨hmin, hmax⟩, hemf⟩, hemfs⟩, htemp⟩, htemps⟩
    exact ⟨hne hmin, .inr ⟨hmin, hmax,
      fun x hx => ⟨(hemf x hx).1, (hemf x hx).2, (htemp x hx).1, (htemp x hx).2⟩, hemfs.and htemps⟩⟩
  · rintro ⟨hnonempty, hnil | ⟨hmin, hmax, hrange, hinc⟩⟩
    · exact absurd hnil hnonempty
    · refine ⟨⟨⟨⟨⟨hmin, hmax⟩, fun x hx => ?_⟩, hinc.imp And.left⟩, fun x hx => ?_⟩, hinc.imp And.right⟩ <;>
        obtain ⟨hemfLow, hemfHigh, htempLow, htempHigh⟩ := hrange x hx
      · exact ⟨hemfLow, hemfHigh⟩
      · exact ⟨htempLow, htempHigh⟩

/-! ### The breakpoints of a payload (section 11.5) -/

/-- The breakpoint's EMF fits the four-byte field, its temperature the two-byte one. -/
def BreakpointFits (x : Breakpoint) : Prop :=
  -2147483648 ≤ x.emf ∧ x.emf ≤ 2147483647 ∧ -32768 ≤ x.temp ∧ x.temp ≤ 32767

theorem CurveLaw.fits (h : CurveLaw curve) : ∀ x ∈ curve, BreakpointFits x := by
  intro x hx
  rcases h with rfl | ⟨-, -, hrange, -⟩
  · exact absurd hx List.not_mem_nil
  · obtain ⟨hemfLow, hemfHigh, htempLow, htempHigh⟩ := hrange x hx
    refine ⟨?_, ?_, ?_, ?_⟩ <;> omega

theorem CurveLaw.length_le (h : CurveLaw curve) : curve.length ≤ 12 := by
  rcases h with rfl | ⟨-, hmax, -⟩
  · exact Nat.zero_le _
  · exact hmax

@[simp] theorem breakpointBytes_length (x : Breakpoint) : (breakpointBytes x).length = 6 := rfl

theorem flatMap_breakpointBytes_length (curve : List Breakpoint) :
    (curve.flatMap breakpointBytes).length = 6 * curve.length := by
  simp [List.length_flatMap, Nat.mul_comm]

theorem s32_breakpointBytes {x : Breakpoint} (h : BreakpointFits x) (rest : List Byte) :
    s32 (breakpointBytes x ++ rest) 0 = x.emf := by
  obtain ⟨hlow, hhigh, -, -⟩ := h
  rw [breakpointBytes, List.append_assoc, s32_put32 _ ⟨hlow, hhigh⟩]

theorem s16_breakpointBytes {x : Breakpoint} (h : BreakpointFits x) (rest : List Byte) :
    s16 (breakpointBytes x ++ rest) 4 = x.temp := by
  obtain ⟨-, -, hlow, hhigh⟩ := h
  rw [breakpointBytes, List.append_assoc]
  exact (s16_append_right (put32 _) _ 0).trans (s16_put16 _ ⟨hlow, hhigh⟩ rest)

/-- Breakpoints sent one after another, from any offset on, are read back. -/
theorem map_range_flatMap_breakpointBytes (curve : List Breakpoint) (h : ∀ x ∈ curve, BreakpointFits x)
    (front : List Byte) :
    ((List.range curve.length).map fun i =>
      (⟨s32 (front ++ curve.flatMap breakpointBytes) (front.length + 6 * i),
        s16 (front ++ curve.flatMap breakpointBytes) (front.length + (4 + 6 * i))⟩ : Breakpoint)) = curve := by
  induction curve generalizing front with
  | nil => rfl
  | cons x curve ih =>
    obtain ⟨hx, hcurve⟩ := List.forall_mem_cons.1 h
    rw [List.length_cons, List.range_succ_eq_map, List.map_cons, List.map_map, List.flatMap_cons]
    congr 1
    · rw [s32_append_right, s16_append_right, s32_breakpointBytes hx, s16_breakpointBytes hx]
    · refine Eq.trans (List.map_congr_left fun i _ => ?_) (ih hcurve (front ++ breakpointBytes x))
      have hemf : front.length + 6 * (i + 1) = (front ++ breakpointBytes x).length + 6 * i := by
        rw [List.length_append, breakpointBytes_length]; omega
      have htemp : front.length + (4 + 6 * (i + 1)) = (front ++ breakpointBytes x).length + (4 + 6 * i) := by
        rw [List.length_append, breakpointBytes_length]; omega
      rw [Function.comp_apply, Nat.succ_eq_add_one, hemf, htemp, List.append_assoc]

/-- The payload of a CURVE_SET of a list: the set's number, the count, the breakpoints. -/
def curveSetPayload (b : Byte) (curve : List Breakpoint) : List Byte :=
  [b, put8 curve.length] ++ curve.flatMap breakpointBytes

theorem curveSetPayload_count (h : curve.length ≤ 255) : u8 (curveSetPayload b curve) 1 = curve.length := by
  show (put8 curve.length).toNat = curve.length
  rw [put8_toNat]
  omega

theorem curveSetPayload_length : (curveSetPayload b curve).length = 2 + 6 * curve.length := by
  rw [curveSetPayload, List.length_append, flatMap_breakpointBytes_length]
  rfl

theorem lengthOk_curveSetPayload : lengthOk .curveSet (curveSetPayload b curve).length = true := by
  rw [curveSetPayload_length]
  simp [lengthOk]

/-- The list that CURVE_SET sends is the one its owner reads. -/
theorem payloadBreakpoints_curveSetPayload (hlen : curve.length ≤ 255) (h : ∀ x ∈ curve, BreakpointFits x) :
    payloadBreakpoints (curveSetPayload b curve) = curve := by
  rw [payloadBreakpoints, curveSetPayload_count hlen]
  refine Eq.trans (List.map_congr_left fun i _ => ?_)
    (map_range_flatMap_breakpointBytes curve h [b, put8 curve.length])
  rw [List.length_cons, List.length_singleton, ← Nat.add_assoc]
  rfl

/-! ### What the owners answer (R43, R45) -/

theorem serveCurveSet_state (h : s.op.state ≠ .stopped) : serveCurveSet pl s = answer .state s := if_pos h

theorem serveCurveSet_format (hs : s.op.state = .stopped) (h : rest.length ≠ 6 * count.toNat) :
    serveCurveSet ([b, count] ++ rest) s = answer .format s := by
  have hlen : ([b, count] ++ rest).length ≠ 2 + 6 * u8 ([b, count] ++ rest) 1 := by
    show ([b, count] ++ rest).length ≠ 2 + 6 * count.toNat
    rw [List.length_append, List.length_cons, List.length_singleton]
    omega
  rw [serveCurveSet, if_neg (not_not.2 hs), if_pos hlen]

/-- In STOPPED a list that arrives whole is judged by the set's number and the owner's check alone. -/
theorem serveCurveSet_curveSetPayload (hs : s.op.state = .stopped) (hlen : curve.length ≤ 255)
    (h : ∀ x ∈ curve, BreakpointFits x) :
    serveCurveSet (curveSetPayload b curve) s =
      match below 4 b.toNat with
      | none => answer .range s
      | some n =>
        if curveOk curve then
          answer .done { s with input := { s.input with curves := upd s.input.curves n fun _ => curve } }
        else answer .range s := by
  have hcount : (curveSetPayload b curve).length = 2 + 6 * u8 (curveSetPayload b curve) 1 := by
    rw [curveSetPayload_length, curveSetPayload_count hlen]
  rw [serveCurveSet, if_neg (not_not.2 hs), if_neg (not_not.2 hcount), payloadBreakpoints_curveSetPayload hlen h]
  rfl

theorem serveCurveSet_done (hs : s.op.state = .stopped) (hne : curve ≠ []) (h : CurveLaw curve) :
    serveCurveSet (curveSetPayload (put8 n.val) curve) s =
      answer .done { s with input := { s.input with curves := upd s.input.curves n fun _ => curve } } := by
  rw [serveCurveSet_curveSetPayload hs (h.length_le.trans (by decide)) h.fits, below_put8 (by decide) n]
  exact if_pos (curveOk_iff.2 ⟨hne, h⟩)

theorem serveCurveSet_range (hs : s.op.state = .stopped) (hlen : curve.length ≤ 255)
    (hfits : ∀ x ∈ curve, BreakpointFits x) (h : 4 ≤ b.toNat ∨ curve = [] ∨ ¬ CurveLaw curve) :
    serveCurveSet (curveSetPayload b curve) s = answer .range s := by
  rw [serveCurveSet_curveSetPayload hs hlen hfits]
  rcases h with hb | hbad
  · rw [below_none.2 hb]
  · have hok : ¬ curveOk curve = true := by rwa [curveOk_iff, not_and_or, not_not]
    split
    · rfl
    · exact if_neg hok

theorem serveCurveGet_put8 (n : Fin 4) :
    serveCurveGet [put8 n.val] s = doneWith (curveGetBytes n s.input.curves[n]) s := by
  simp only [serveCurveGet, u8_zero, below_put8 (by decide : 4 ≤ 256) n]

theorem serveCurveGet_range (h : 4 ≤ b.toNat) : serveCurveGet [b] s = answer .range s := by
  simp only [serveCurveGet, u8_zero, below_none.2 h]

/-- A length that disagrees with the count is refused with FORMAT, be it by the catalogue of lengths or by
the owner (R43, R170). -/
theorem exec_curveSet_format {p : Port} (ht : s.takes p .curveSet) (hs : s.op.state = .stopped)
    (h : rest.length ≠ 6 * count.toNat) :
    exec (.curveSet p ([b, count] ++ rest)) s = .next (s.refused p .curveSet .format) := by
  cases hl : lengthOk .curveSet ([b, count] ++ rest).length with
  | false => exact exec_of_badLength ht hl
  | true => exact exec_of_refusal ht hl (by decide) (serveCurveSet_format hs h)

/-- Settles O25: the owners' answers, put through the taking of a request. The list that is checked and
held is the list that was sent, as its bytes read back. -/
theorem curveSetReplacesAndGetReturns : Obligations.CurveSetReplacesAndGetReturns := by
  intro p s n
  refine ⟨fun ht => ⟨fun curve hs hne hlaw => ?_, fun pl hs hl => ?_, fun b count rest hs hlen => ?_,
      fun b curve hs hlen hfits hbad => ?_⟩,
    fun ht => ⟨exec_of_doneWith ht rfl (serveCurveGet_put8 n),
      fun b hb => exec_of_range ht rfl (serveCurveGet_range hb)⟩,
    byDefault_isReadKind .curveGet⟩
  · exact exec_of_done ht lengthOk_curveSetPayload (serveCurveSet_done hs hne hlaw)
  · exact exec_of_refusal ht hl (by decide) (serveCurveSet_state hs)
  · exact exec_curveSet_format ht hs hlen
  · exact exec_of_range ht lengthOk_curveSetPayload (serveCurveSet_range hs hlen hfits hbad)

end Sys2Proof.Machine
end

section
/-! PROOF. SCAN_SET and CARD_SET (R39, R71): what their owners answer in each case. -/

namespace Sys2Proof.Machine

variable {s : State}

@[simp] theorem u16_zero (hi lo : Byte) (pl : List Byte) : u16 (hi :: lo :: pl) 0 = (hi ++ lo).toNat :=
  u16_eq _ 0

/-! ### SCAN_SET (R39) -/

/-- The sent interval, where it is one of 5 to 600 s, is the one written. -/
theorem serveScanSet_done {hi lo : Byte} (h : 5 ≤ (hi ++ lo).toNat ∧ (hi ++ lo).toNat ≤ 600) :
    serveScanSet [hi, lo] s =
      answer .done { s with input := { s.input with interval := (hi ++ lo).toNat } } := by
  rw [serveScanSet, u16_zero]
  exact if_pos (within_iff.2 (by omega))

theorem serveScanSet_range {hi lo : Byte} (h : ¬ (5 ≤ (hi ++ lo).toNat ∧ (hi ++ lo).toNat ≤ 600)) :
    serveScanSet [hi, lo] s = answer .range s := by
  rw [serveScanSet, u16_zero]
  exact if_neg fun hw => h (by rw [within_iff] at hw; omega)

/-! ### CARD_SET (R71) -/

theorem serveCardSet_state {pl : List Byte} (h : s.op.state ≠ .stopped) :
    serveCardSet pl s = answer .state s := if_pos h

/-- In STOPPED the number of a card leaves the substitute alone to decide. -/
theorem serveCardSet_put8 {hi lo : Byte} (hs : s.op.state = .stopped) (k : CardNo) :
    serveCardSet [put8 k.val, hi, lo] s =
      if within (-400) (hi ++ lo).toInt 1250 then
        answer .done (s.updCard k fun e => { e with substitute := (hi ++ lo).toInt })
      else answer .range s := by
  rw [serveCardSet, if_neg (not_not.2 hs)]
  simp only [u8_zero, s16_succ, s16_zero, below_put8 (by decide : 6 ≤ 256) k]

/-- A number that is no card's, or a substitute out of range, is enough. -/
theorem serveCardSet_range {card hi lo : Byte} (hs : s.op.state = .stopped)
    (h : 6 ≤ card.toNat ∨ (hi ++ lo).toInt < -400 ∨ 1250 < (hi ++ lo).toInt) :
    serveCardSet [card, hi, lo] s = answer .range s := by
  rw [serveCardSet, if_neg (not_not.2 hs)]
  simp only [u8_zero, s16_succ, s16_zero]
  rcases h with hcard | hsubstitute
  · rw [below_none.2 hcard]
  · have hout : ¬ within (-400) (hi ++ lo).toInt 1250 = true := by rw [within_iff]; omega
    split
    · rfl
    · exact if_neg hout

/-! ### The replies -/

/-- Settles O23: the owners' answers in their cases, put through the taking of a request. -/
theorem scanSetAndCardSet : Obligations.ScanSetAndCardSet := by
  intro p s card hi lo
  refine ⟨fun ht => ?_, fun ht => ⟨fun hs => ?_, fun hs hbad => ?_, fun k hs hcard hlow hhigh => ?_⟩,
    byDefault_isReadKind .scanSet, byDefault_isReadKind .cardSet⟩
  · split
    next hin => exact exec_of_done ht rfl (serveScanSet_done hin)
    next hout => exact exec_of_range ht rfl (serveScanSet_range hout)
  · exact exec_of_refusal ht rfl (by decide) (serveCardSet_state hs)
  · exact exec_of_range ht rfl (serveCardSet_range hs hbad)
  · subst hcard
    have hserve := serveCardSet_put8 (hi := hi) (lo := lo) hs k
    rw [if_pos (within_iff.2 ⟨hlow, hhigh⟩)] at hserve
    exact exec_of_done ht rfl hserve

end Sys2Proof.Machine
end

section
/-! PROOF. The intake, the control latch and the abandonment of a computation (R74, R76, R81, R82, R101): what the latch takes and applies, and that an abandonment gives it back. -/

namespace Sys2Proof.Machine

/-! ### An entry of the latch (R81, R82) -/

section
variable {α : Type} {e : Option (Entry α)} {a : α}

/-- The latch takes just the entries that pend. -/
theorem fresh_eq_some_iff : fresh e = some a ↔ Pends e a := by
  unfold Pends
  rcases e with _ | ⟨b, _ | _⟩ <;> simp [fresh]

theorem fresh_eq_none (h : ∀ a, ¬ Pends e a) : fresh e = none :=
  Option.eq_none_iff_forall_ne_some.2 fun a ha => h a (fresh_eq_some_iff.1 ha)

/-- An entry whose mark was clear is as it was once its mark is set and cleared again. -/
theorem clearTaken_markTaken (h : ∀ x, e = some x → x.taken = false) : clearTaken (markTaken e) = e := by
  rcases e with _ | x
  · rfl
  · obtain ⟨b, taken⟩ := x
    cases h _ rfl
    rfl

end

theorem limitsDiffer_iff {old new : ZoneRecord} : limitsDiffer old new = true ↔ ChangesLimits old new := by
  simp only [limitsDiffer, ChangesLimits, Bool.or_eq_true, bne_iff_ne, or_assoc]

theorem ControlLatch.takeAll_zoneEdits (l : ControlLatch) (z : ZoneNo) :
    l.takeAll.zoneEdits[z] = l.zoneEdits[z].map fun e => ⟨e.value, true⟩ := by
  rw [takeAll, Fin.getElem_fin, tab_get, markTaken]

theorem ControlLatch.takeAll_holds (l : ControlLatch) (p : PassNo) :
    l.takeAll.holds[p] = l.holds[p].map fun e => ⟨e.value, true⟩ := by
  rw [takeAll, Fin.getElem_fin, tab_get, markTaken]

theorem ControlLatch.takeAll_peakClears (l : ControlLatch) (p : PassNo) :
    l.takeAll.peakClears[p] = l.peakClears[p].map fun e => ⟨e.value, true⟩ := by
  rw [takeAll, Fin.getElem_fin, tab_get, markTaken]

/-- A latch without a taken mark is as it was once it is taken and given back. -/
theorem ControlLatch.untakeAll_takeAll {l : ControlLatch}
    (hzones : ∀ (z : ZoneNo) (e : Entry ZoneRecord), l.zoneEdits[z] = some e → e.taken = false)
    (hholds : ∀ (p : PassNo) (e : Entry Bool), l.holds[p] = some e → e.taken = false)
    (hpeaks : ∀ (p : PassNo) (e : Entry Unit), l.peakClears[p] = some e → e.taken = false) :
    l.takeAll.untakeAll = l := by
  have zones : l.takeAll.untakeAll.zoneEdits = l.zoneEdits := table_ext fun z => by
    simpa [takeAll, untakeAll] using clearTaken_markTaken (hzones z)
  have holds : l.takeAll.untakeAll.holds = l.holds := table_ext fun p => by
    simpa [takeAll, untakeAll] using clearTaken_markTaken (hholds p)
  have peaks : l.takeAll.untakeAll.peakClears = l.peakClears := table_ext fun p => by
    simpa [takeAll, untakeAll] using clearTaken_markTaken (hpeaks p)
  cases l
  exact congr (congr (congrArg ControlLatch.mk zones) holds) peaks

/-! ### What the latch applies (R81) -/

variable {m : MapEngine} {image : MarkedImage} {c : Computation} {z : ZoneNo} {p : PassNo}

theorem latchedZones_of_pends {edit : ZoneRecord} (h : Pends m.latch.zoneEdits[z] edit) :
    m.latchedZones[z] = edit := by
  have hf : fresh m.latch.zoneEdits[z.val] = some edit := fresh_eq_some_iff.2 h
  simp [MapEngine.latchedZones, hf]

theorem latchedZones_of_not_pends (h : ∀ edit, ¬ Pends m.latch.zoneEdits[z] edit) :
    m.latchedZones[z] = m.zones[z] := by
  have hf : fresh m.latch.zoneEdits[z.val] = none := fresh_eq_none h
  simp [MapEngine.latchedZones, hf]

theorem latchedHeld_of_pends {b : Bool} (h : Pends m.latch.holds[p] b) : m.latchedHeld p = b := by
  rw [MapEngine.latchedHeld, fresh_eq_some_iff.2 h, Option.getD_some]

theorem latchedHeld_of_not_pends (h : ∀ b, ¬ Pends m.latch.holds[p] b) :
    m.latchedHeld p = m.passes[p].held := by
  rw [MapEngine.latchedHeld, fresh_eq_none h, Option.getD_none]

/-- The pass table after the latch: the held field alone moves. -/
theorem startComputation_pass (m : MapEngine) (image : MarkedImage) (p : PassNo) :
    (m.startComputation image).passes[p] = { m.passes[p] with held := m.latchedHeld p } := by
  simp

/-! ### What the computation keeps of its latch -/

section
variable (h : (m.startComputation image).computing = some c)
include h

theorem limitsChanged_of_start (z : ZoneNo) :
    c.limitsChanged[z] = (fresh m.latch.zoneEdits[z]).elim false (limitsDiffer m.zones[z]) := by
  cases h; simp

theorem released_of_start (p : PassNo) : c.released[p] = (m.passes[p].held && !m.latchedHeld p) := by
  cases h; simp

theorem clearPeaks_of_start (p : PassNo) : c.clearPeaks[p] = (fresh m.latch.peakClears[p]).isSome := by
  cases h; simp

theorem holdRecords_of_start (p : PassNo) :
    c.holdRecords[p] = if m.latchedHeld p = m.passes[p].held then none else some (m.latchedHeld p) := by
  cases h; simp

theorem zone_of_pends {edit : ZoneRecord} (hp : Pends m.latch.zoneEdits[z] edit) :
    (m.startComputation image).zones[z] = edit
      ∧ (c.limitsChanged[z] = true ↔ ChangesLimits m.zones[z] edit) := by
  refine ⟨latchedZones_of_pends hp, ?_⟩
  rw [limitsChanged_of_start h, fresh_eq_some_iff.2 hp, Option.elim_some, limitsDiffer_iff]

theorem zone_of_not_pends (hp : ∀ edit, ¬ Pends m.latch.zoneEdits[z] edit) :
    (m.startComputation image).zones[z] = m.zones[z] ∧ c.limitsChanged[z] = false := by
  refine ⟨latchedZones_of_not_pends hp, ?_⟩
  rw [limitsChanged_of_start h, fresh_eq_none hp, Option.elim_none]

theorem hold_of_pends {b : Bool} (hp : Pends m.latch.holds[p] b) :
    (m.startComputation image).passes[p] = { m.passes[p] with held := b }
      ∧ c.holdRecords[p] = (if b = m.passes[p].held then none else some b)
      ∧ (c.released[p] = true ↔ m.passes[p].held = true ∧ b = false) := by
  rw [startComputation_pass, holdRecords_of_start h, released_of_start h, latchedHeld_of_pends hp]
  exact ⟨rfl, rfl, by rw [Bool.and_eq_true, Bool.not_eq_true']⟩

theorem hold_of_not_pends (hp : ∀ b, ¬ Pends m.latch.holds[p] b) :
    (m.startComputation image).passes[p] = m.passes[p] ∧ c.holdRecords[p] = none ∧ c.released[p] = false := by
  rw [startComputation_pass, holdRecords_of_start h, released_of_start h, latchedHeld_of_not_pends hp]
  exact ⟨rfl, if_pos rfl, Bool.and_not_self _⟩

theorem clearPeaks_iff (p : PassNo) : c.clearPeaks[p] = true ↔ Pends m.latch.peakClears[p] () := by
  rw [clearPeaks_of_start h, Option.isSome_iff_exists]
  exact ⟨fun ⟨_, hf⟩ => fresh_eq_some_iff.1 hf, fun hp => ⟨(), fresh_eq_some_iff.2 hp⟩⟩

end

/-- The cells of a computation at its start: the resume marker of the image voids every previous value for
the rate, and without it they are as they were (R76). -/
theorem startComputation_cell_of_resume (h : image.resume = true) (i : CellIndex) :
    (m.startComputation image).cells[i] = { m.cells[i] with prevValid := false } := by
  simp [h]

theorem startComputation_cells_of_not_resume (h : image.resume = false) :
    (m.startComputation image).cells = m.cells := by
  simp [h]

theorem controlLatchApplies : ControlLatchApplies := by
  intro m image
  obtain ⟨c, hc, hsource, -⟩ := m.startComputation_computing image
  refine ⟨_, c, rfl, hc, hsource, fun z edit => zone_of_pends hc, fun z => zone_of_not_pends hc,
    fun p b => hold_of_pends hc, fun p => hold_of_not_pends hc, clearPeaks_iff hc,
    m.latch.takeAll_zoneEdits, m.latch.takeAll_holds, m.latch.takeAll_peakClears,
    startComputation_cells_of_not_resume, fun h i _ => startComputation_cell_of_resume h i, ?_⟩
  rw [← hc]
  rfl

/-! ### Abandonment (R82, R101) -/

theorem MapEngine.abandon_of_computing (h : m.computing = some c) :
    m.abandon = { m with
      zones := c.savedZones, passes := tab fun p => { m.passes[p] with held := c.savedHeld[p] },
      cells := c.savedCells, latch := m.latch.untakeAll, computing := none, waiting := none,
      resumeMarker := false } := by
  rw [abandon, h]

/-- The pass table with the saved held fields is the pass table from before the latch. -/
theorem restore_held_startComputation (hsaved : ∀ p : PassNo, c.savedHeld[p] = m.passes[p].held) :
    (tab fun p => { (m.startComputation image).passes[p] with held := c.savedHeld[p] }) = m.passes :=
  table_ext fun p => by
    rw [Fin.getElem_fin, tab_get, startComputation_pass, hsaved]

theorem abandonmentUndoesTheLatch : AbandonmentUndoesTheLatch := by
  intro m image hready hempty hmarker hzones hholds hpeaks
  obtain ⟨c, hc, -, hsavedZones, hsavedCells, hsavedHeld, -⟩ := m.startComputation_computing image
  rw [MapEngine.abandon_of_computing hc, restore_held_startComputation hsavedHeld, hsavedZones, hsavedCells,
    MapEngine.startComputation_latch, ControlLatch.untakeAll_takeAll hzones hholds hpeaks,
    ← hready, ← hempty, ← hmarker]
  rfl

/-! ### The intake (R74, R76) -/

/-- Emissions change the flow and the draws alone. -/
theorem State.emit_frame (s : State) (sent : List Sent) :
    s.emit sent = { s.withFlow (s.emit sent).flow with draws := (s.emit sent).draws } :=
  State.eq_of_fields (s.emit_powered _) (s.emit_resetPin _) (s.emit_link _) (s.emit_op _)
    (s.emit_input _) (s.emit_map _) (s.emit_trend _) rfl rfl rfl rfl (s.emit_pending _)

theorem State.emit_emitted (s : State) (sent : List Sent) : Emitted sent s (s.emit sent) :=
  ⟨s.emit_emits sent, fun h => by subst h; exact ⟨rfl, rfl⟩⟩

variable {s : State} {arriving : ScanImage}

theorem imageArrives_of_ready (h : s.map.computing = none) :
    s.imageArrives arriving = { s with
      map := { s.map with resumeMarker := false }.startComputation ⟨arriving, s.map.resumeMarker⟩ } := by
  simp only [State.imageArrives, h]

theorem imageArrives_of_emptySlot (h : s.map.computing.isSome = true) (hw : s.map.waiting = none) :
    s.imageArrives arriving = { s with
      map := { s.map with waiting := some ⟨arriving, s.map.resumeMarker⟩, resumeMarker := false } } := by
  obtain ⟨c, hc⟩ := Option.isSome_iff_exists.1 h
  simp only [State.imageArrives, hc, hw]

theorem imageArrives_of_fullSlot {old : MarkedImage} (h : s.map.computing.isSome = true)
    (hw : s.map.waiting = some old) :
    s.imageArrives arriving = State.emit
      { s with map := { s.map with
        waiting := some ⟨arriving, s.map.resumeMarker || old.resume⟩, resumeMarker := false } }
      [.notice ⟨.mapSkipped, some (old.image.number.toNat % 65536)⟩] := by
  obtain ⟨c, hc⟩ := Option.isSome_iff_exists.1 h
  simp only [State.imageArrives, hc, hw]

theorem imageArrivalRule : ImageArrivalRule := by
  intro s image
  refine ⟨fun hready => ?_, imageArrives_of_emptySlot, fun old hbusy hfull => ?_⟩
  · obtain ⟨c, hc, hsource, -⟩ :=
      MapEngine.startComputation_computing { s.map with resumeMarker := false } ⟨image, s.map.resumeMarker⟩
    rw [imageArrives_of_ready hready]
    exact ⟨c, hc, hsource, rfl, rfl, rfl⟩
  · refine ⟨_, imageArrives_of_fullSlot hbusy hfull, State.emit_map _ _, State.emit_emitted _ _, ?_⟩
    rw [State.emit_map]
    exact State.emit_frame _ _

/-- Settles O39, part by part: the intake in its three cases; the latch entry by entry, by whether the entry
pends; and abandonment, which restores each table that the latch changed. -/
theorem intakeAndAbandonment : Obligations.IntakeAndAbandonment :=
  ⟨imageArrivalRule, controlLatchApplies, abandonmentUndoesTheLatch⟩

end Sys2Proof.Machine
end

section
/-! PROOF. The fields of a payload and their bytes: a field has the bytes of a value just where it reads as that value. -/

namespace Sys2Proof.Machine

variable {b hi lo : Byte} {pl : List Byte}

@[simp] theorem u16_succ (b : Byte) (pl : List Byte) (i : Nat) : u16 (b :: pl) (i + 1) = u16 pl i := rfl

@[simp] theorem opt16_succ (b : Byte) (pl : List Byte) (i : Nat) : opt16 (b :: pl) (i + 1) = opt16 pl i := rfl

theorem eq_put8_iff {n : Nat} (h : n < 256) : b = put8 n ↔ b.toNat = n := by
  rw [← BitVec.toNat_inj, put8_toNat, Nat.mod_eq_of_lt h]

theorem eq_put8_iff_below {n : Nat} (h : n ≤ 256) (i : Fin n) : b = put8 i.val ↔ below n b.toNat = some i := by
  rw [below_some, eq_put8_iff (Nat.lt_of_lt_of_le i.isLt h)]

theorem eq_putBool_iff {yes : Bool} : b = putBool yes ↔ yesNo b.toNat = some yes := by
  rw [yesNo_some, ← BitVec.toNat_inj]
  cases yes <;> rfl

/-- The two bytes of a word are a field's bytes just where the field is the word. -/
theorem eq_extract16_iff (w : BitVec 16) :
    [hi, lo] = [w.extractLsb' 8 8, w.extractLsb' 0 8] ↔ (hi ++ lo : BitVec 16) = w := by
  constructor
  · intro h
    obtain ⟨rfl, rfl⟩ : hi = w.extractLsb' 8 8 ∧ lo = w.extractLsb' 0 8 := by simpa using h
    exact extract_append16 w
  · rintro rfl
    rw [BitVec.extractLsb'_append_eq_left, BitVec.extractLsb'_append_eq_right]

theorem eq_put16_iff {x : Int} (h : -32768 ≤ x ∧ x ≤ 32767) : [hi, lo] = put16 x ↔ (hi ++ lo).toInt = x := by
  rw [put16, eq_extract16_iff, ← BitVec.toInt_inj, BitVec.toInt_ofInt_eq_self (by decide) (by omega) (by omega)]

theorem eq_put16_iff_u16 {n : Nat} (h : n < 65536) : [hi, lo] = put16 n ↔ u16 (hi :: lo :: pl) 0 = n := by
  rw [put16, eq_extract16_iff, u16_zero, BitVec.ofInt_natCast, ← BitVec.toNat_inj, BitVec.toNat_ofNat,
    Nat.mod_eq_of_lt h]

/-- An optional field has the bytes of a value that is not the absent one just where it reads as that value. -/
theorem eq_putOpt16_iff {x : Option Int} (h : ∀ v, x = some v → -32768 < v ∧ v ≤ 32767) :
    [hi, lo] = putOpt16 x ↔ opt16 (hi :: lo :: pl) 0 = x := by
  rw [opt16, s16_zero]
  cases x with
  | none =>
    rw [putOpt16, Option.getD_none, eq_put16_iff (by decide)]
    split
    next habsent => exact iff_of_true habsent rfl
    next hpresent => exact iff_of_false hpresent (by simp)
  | some v =>
    obtain ⟨hlow, hhigh⟩ := h v rfl
    rw [putOpt16, Option.getD_some, eq_put16_iff (by omega)]
    split
    next habsent => simp only [absent16] at habsent; simp; omega
    next => simp

end Sys2Proof.Machine
end

section
/-! PROOF. ZONE_SET and ZONE_GET (R102, R104, R105): the law of a zone record is its owner's check, and a payload is read as just the definition its bytes ask for. -/

namespace Sys2Proof.Machine

variable {s : State} {z : ZoneNo} {r : ZoneRecord} {b : Byte} {fields pl : List Byte}

/-! ### The law of a zone record (R104) -/

theorem optWithin_iff {lo hi : Int} {x : Option Int} :
    optWithin lo x hi = true ↔ ∀ v, x = some v → lo ≤ v ∧ v ≤ hi := by
  cases x <;> simp [optWithin, within_iff]

theorem edgesOrdered_iff {x y : Option Int} :
    edgesOrdered x y = true ↔ ∀ a b, x = some a → y = some b → a ≤ b := by
  cases x <;> cases y <;> simp [edgesOrdered]

theorem zoneSettingsOk_iff : zoneSettingsOk r = true ↔
    InDeviceRange r.watch ∧ InDeviceRange r.alarm ∧ InDeviceRange r.limit
    ∧ (∀ a b, r.watch = some a → r.alarm = some b → a ≤ b)
    ∧ (∀ a b, r.alarm = some a → r.limit = some b → a ≤ b)
    ∧ (∀ a b, r.watch = some a → r.limit = some b → a ≤ b)
    ∧ r.hysteresis ≤ 500 ∧ (1 ≤ r.persistence ∧ r.persistence ≤ 15) ∧ r.holdAllowance ≤ 15
    ∧ (1 ≤ r.weight ∧ r.weight ≤ 16) ∧ (∀ v, r.rateLimit = some v → 1 ≤ v ∧ v ≤ 5000)
    ∧ ∀ v, r.discrepancy = some v → 1 ≤ v ∧ v ≤ 2000 := by
  simp [zoneSettingsOk, optWithin_iff, edgesOrdered_iff, within_iff, and_assoc, InDeviceRange]

/-- The extent of a zone is lawful: its stations in order, zone 0 over the whole grid (R103, R104). -/
def ExtentLaw (z : ZoneNo) (enabled : Bool) (passes : BitVec 4) (first last : Station) : Prop :=
  first ≤ last ∧ (z = 0 → enabled = true ∧ passes = 15 ∧ first = 0 ∧ last = 31)

/-- The owner's check of the settings leaves the extent of the zone to be lawful. -/
theorem zoneLaw_iff :
    ZoneLaw z r ↔ ExtentLaw z r.enabled r.passes r.first r.last ∧ zoneSettingsOk r = true := by
  rw [zoneSettingsOk_iff]
  constructor
  · intro h
    exact ⟨⟨h.stations, h.zoneZero⟩, h.watch, h.alarm, h.limit, h.watchAlarm, h.alarmLimit, h.watchLimit,
      h.hysteresis, h.persistence, h.holdAllowance, h.weight, h.rateLimit, h.discrepancy⟩
  · rintro ⟨⟨hstations, hzero⟩, hwatch, halarm, hlimit, hwa, hal, hwl, hhysteresis, hpersistence, hallowance,
      hweight, hrate, hdiscrepancy⟩
    exact ⟨hstations, hzero, hwatch, halarm, hlimit, hwa, hal, hwl, hhysteresis, hpersistence, hallowance,
      hweight, hrate, hdiscrepancy⟩

/-! ### The definition of a payload (section 11.5) -/

/-- The byte of a pass set is read as the set just where its upper half is clear. -/
theorem eq_setWidth_iff_below {passes : BitVec 4} :
    b = passes.setWidth 8 ↔ below 16 b.toNat = some passes.toFin := by
  have hpasses : passes.toNat < 16 := passes.isLt
  rw [below_some, ← BitVec.toNat_inj, BitVec.toNat_setWidth, BitVec.val_toFin, Nat.mod_eq_of_lt (by omega)]

/-- The extent of any zone but zone 0 is read from its four bytes. -/
theorem payloadExtent_iff {enabled : Bool} {passes : BitVec 4} {first last : Station} {b0 b1 b2 b3 : Byte} :
    payloadExtent z (b :: b0 :: b1 :: b2 :: b3 :: pl) = some (enabled, passes, first, last) ↔
      ExtentLaw z enabled passes first last
      ∧ (z ≠ 0 → [b0, b1, b2, b3] = [putBool enabled, passes.setWidth 8, put8 first.val, put8 last.val]) := by
  by_cases hz : z = 0
  · simp only [payloadExtent, ExtentLaw, hz, if_true, Option.some.injEq, Prod.mk.injEq, ne_eq, not_true,
      false_imp_iff, and_true, true_imp_iff]
    constructor
    · rintro ⟨rfl, rfl, rfl, rfl⟩
      exact ⟨by decide, rfl, rfl, rfl, rfl⟩
    · rintro ⟨-, rfl, rfl, rfl, rfl⟩
      exact ⟨rfl, rfl, rfl, rfl⟩
  · simp only [payloadExtent, ExtentLaw, hz, if_false, u8_succ, u8_zero, List.cons.injEq, and_true, ne_eq,
      not_false_eq_true, false_imp_iff, true_imp_iff, eq_putBool_iff, eq_setWidth_iff_below,
      eq_put8_iff_below (by decide : 32 ≤ 256)]
    constructor
    · split
      next henabled hpasses hfirst hlast =>
        split
        next hle =>
          intro h
          simp only [Option.some.injEq, Prod.mk.injEq] at h
          obtain ⟨rfl, rfl, rfl, rfl⟩ := h
          exact ⟨hle, henabled, hpasses, hfirst, hlast⟩
        next => simp
      next => simp
    · rintro ⟨hle, henabled, hpasses, hfirst, hlast⟩
      simp only [henabled, hpasses, hfirst, hlast, hle, if_true]

/-- The settings of a ZONE_SET's payload, from the edges on, read as the definition's (section 11.5). -/
def SettingsRead (pl : List Byte) (r : ZoneRecord) : Prop :=
  opt16 pl 5 = r.watch ∧ opt16 pl 7 = r.alarm ∧ opt16 pl 9 = r.limit ∧ u16 pl 11 = r.hysteresis
  ∧ u8 pl 13 = r.persistence ∧ u8 pl 14 = r.holdAllowance ∧ u8 pl 15 = r.weight
  ∧ opt16 pl 16 = r.rateLimit ∧ opt16 pl 18 = r.discrepancy

/-- A payload gives a definition just where its extent and its settings read as the definition's. -/
theorem payloadZone_eq_some_iff : payloadZone z pl = some r ↔
    payloadExtent z pl = some (r.enabled, r.passes, r.first, r.last) ∧ zoneSettingsOk r = true
    ∧ SettingsRead pl r := by
  rw [payloadZone]
  rcases payloadExtent z pl with _ | ⟨enabled, passes, first, last⟩
  · simp
  · constructor
    · dsimp only
      split
      next hok =>
        intro h
        obtain rfl := Option.some.inj h
        exact ⟨rfl, hok, rfl, rfl, rfl, rfl, rfl, rfl, rfl, rfl, rfl⟩
      next => simp
    · rintro ⟨hextent, hok, hsettings⟩
      obtain ⟨enabled', passes', first', last', watch, alarm, limit, h, p, a, w, rate, disc⟩ := r
      simp only [SettingsRead, Option.some.injEq, Prod.mk.injEq] at hextent hsettings
      obtain ⟨rfl, rfl, rfl, rfl⟩ := hextent
      obtain ⟨rfl, rfl, rfl, rfl, rfl, rfl, rfl, rfl, rfl⟩ := hsettings
      exact if_pos hok

/-- The settings of a lawful definition, byte by byte, are read back, and no other bytes are read as them. -/
theorem settings_iff {b0 b1 b2 b3 w1 w0 a1 a0 l1 l0 h1 h0 persistence allowance weight r1 r0 d1 d0 : Byte}
    (hok : zoneSettingsOk r = true) :
    let settings := [w1, w0, a1, a0, l1, l0, h1, h0, persistence, allowance, weight, r1, r0, d1, d0]
    settings = (zonePayload r).drop 4 ↔ SettingsRead (b :: b0 :: b1 :: b2 :: b3 :: settings) r := by
  obtain ⟨hwatch, halarm, hlimit, -, -, -, hhysteresis, hpersistence, hallowance, hweight, hrate, hdiscrepancy⟩ :=
    zoneSettingsOk_iff.1 hok
  intro settings
  have hbytes : settings = (zonePayload r).drop 4 ↔ [w1, w0] = putOpt16 r.watch ∧ [a1, a0] = putOpt16 r.alarm
      ∧ [l1, l0] = putOpt16 r.limit ∧ [h1, h0] = put16 r.hysteresis ∧ persistence = put8 r.persistence
      ∧ allowance = put8 r.holdAllowance ∧ weight = put8 r.weight ∧ [r1, r0] = putOpt16 r.rateLimit
      ∧ [d1, d0] = putOpt16 r.discrepancy := by
    simp [settings, zonePayload, putOpt16, put16, and_assoc]
  rw [hbytes]
  simp only [SettingsRead, settings, opt16_succ, u16_succ, u8_succ, u8_zero]
  rw [eq_putOpt16_iff fun v h => by have := hwatch v h; omega,
    eq_putOpt16_iff fun v h => by have := halarm v h; omega,
    eq_putOpt16_iff fun v h => by have := hlimit v h; omega, eq_put16_iff_u16 (by omega),
    eq_put8_iff (by omega), eq_put8_iff (by omega), eq_put8_iff (by omega),
    eq_putOpt16_iff fun v h => by have := hrate v h; omega,
    eq_putOpt16_iff fun v h => by have := hdiscrepancy v h; omega]

/-- A payload is read as just the lawful definition its bytes ask for (R104). -/
theorem payloadZone_iff (h : fields.length = 19) :
    payloadZone z (b :: fields) = some r ↔ ZoneAsked z fields r ∧ ZoneLaw z r := by
  match fields, h with
  | [b0, b1, b2, b3, w1, w0, a1, a0, l1, l0, h1, h0, persistence, allowance, weight, r1, r0, d1, d0], _ =>
    rw [payloadZone_eq_some_iff, payloadExtent_iff, zoneLaw_iff]
    constructor
    · rintro ⟨⟨hextent, hfour⟩, hok, hsettings⟩
      refine ⟨⟨rfl, (settings_iff hok).2 hsettings, ?_⟩, hextent, hok⟩
      split
      next hz => exact hextent.2 hz
      next hz => exact hfour hz
    · rintro ⟨⟨-, hdrop, htake⟩, hextent, hok⟩
      refine ⟨⟨hextent, fun hz => ?_⟩, hok, (settings_iff hok).1 hdrop⟩
      rw [if_neg hz] at htake
      exact htake

/-! ### What the owners answer (R104, R105) -/

/-- The zone's edit alone is written. -/
def State.editZone (s : State) (z : ZoneNo) (r : ZoneRecord) : State :=
  s.setLatch { s.map.latch with zoneEdits := upd s.map.latch.zoneEdits z fun _ => written r }

theorem editZone_self : (s.editZone z r).map.latch.zoneEdits[z] = some ⟨r, false⟩ :=
  upd_get_self _ _ _

theorem editZone_of_ne {y : ZoneNo} (h : y ≠ z) :
    (s.editZone z r).map.latch.zoneEdits[y] = s.map.latch.zoneEdits[y] :=
  upd_get_ne _ _ _ _ _ fun e => h (Fin.ext e)

theorem serveZoneSet_done (hasked : ZoneAsked z fields r) (hlaw : ZoneLaw z r) :
    serveZoneSet (put8 z.val :: fields) s = answer .done (s.editZone z r) := by
  have hzone := (payloadZone_iff (b := put8 z.val) hasked.1).2 ⟨hasked, hlaw⟩
  simp only [serveZoneSet, u8_zero, below_put8 (by decide : 8 ≤ 256) z, hzone]
  rfl

theorem serveZoneSet_unlawful (hlen : fields.length = 19) (h : ∀ r, ZoneAsked z fields r → ¬ ZoneLaw z r) :
    serveZoneSet (put8 z.val :: fields) s = answer .range s := by
  have hnone : payloadZone z (put8 z.val :: fields) = none := Option.eq_none_iff_forall_ne_some.2 fun r hr =>
    absurd ((payloadZone_iff hlen).1 hr) fun ⟨hasked, hlaw⟩ => h r hasked hlaw
  simp only [serveZoneSet, u8_zero, below_put8 (by decide : 8 ≤ 256) z, hnone]

theorem serveZoneSet_range (h : 8 ≤ b.toNat) : serveZoneSet (b :: fields) s = answer .range s := by
  simp only [serveZoneSet, u8_zero, below_none.2 h]

/-- A zone is read with the marker of a pending edit and the definition shown. -/
theorem serveZoneGet_put8 : serveZoneGet [put8 z.val] s =
    doneWith ([put8 z.val, putBool s.map.latch.zoneEdits[z].isSome] ++ zonePayload (s.map.zoneShown z)) s := by
  simp only [serveZoneGet, u8_zero, below_put8 (by decide : 8 ≤ 256) z]
  rfl

theorem serveZoneGet_pending {e : Entry ZoneRecord} (h : s.map.latch.zoneEdits[z] = some e) :
    serveZoneGet [put8 z.val] s = doneWith ([put8 z.val, 1] ++ zonePayload e.value) s := by
  rw [serveZoneGet_put8, MapEngine.zoneShown, h]
  rfl

theorem serveZoneGet_table (h : s.map.latch.zoneEdits[z] = none) :
    serveZoneGet [put8 z.val] s = doneWith ([put8 z.val, 0] ++ zonePayload s.map.zones[z]) s := by
  rw [serveZoneGet_put8, MapEngine.zoneShown, h]
  rfl

theorem serveZoneGet_range (h : 8 ≤ b.toNat) : serveZoneGet [b] s = answer .range s := by
  simp only [serveZoneGet, u8_zero, below_none.2 h]

theorem lengthOk_zoneSet (h : fields.length = 19) : lengthOk .zoneSet (b :: fields).length = true := by
  rw [List.length_cons, h]
  rfl

/-- Settles O36: the owners' answers, put through the taking of a request. A payload that is read as no
definition is one that asks for no lawful one. -/
theorem zoneSetPendsAndGetReturns : Obligations.ZoneSetPendsAndGetReturns := by
  intro s p z
  refine ⟨fun ht => ⟨fun fields r hasked hlaw => ?_, fun fields hlen hbad => ?_, fun pl hlen => ?_,
      fun b fields hlen hb => ?_⟩,
    fun ht => ⟨fun e he => ?_, fun hnone => ?_, fun b hb => ?_⟩,
    byDefault_isReadKind .zoneSet, byDefault_isReadKind .zoneGet⟩
  · exact ⟨s.editZone z r, exec_of_done ht (lengthOk_zoneSet hasked.1) (serveZoneSet_done hasked hlaw),
      editZone_self, fun y hy => editZone_of_ne hy, rfl⟩
  · exact exec_of_range ht (lengthOk_zoneSet hlen) (serveZoneSet_unlawful hlen hbad)
  · exact exec_of_badLength ht (beq_eq_false_iff_ne.2 hlen)
  · exact exec_of_range ht (lengthOk_zoneSet hlen) (serveZoneSet_range hb)
  · exact exec_of_doneWith ht rfl (serveZoneGet_pending he)
  · exact exec_of_doneWith ht rfl (serveZoneGet_table hnone)
  · exact exec_of_range ht rfl (serveZoneGet_range hb)

end Sys2Proof.Machine
end

section
/-! PROOF. The movement of a band (R109 to R112): its candidate, its rise by persistence and its fall by hysteresis. -/

namespace Sys2Proof.Machine

variable {z : ZoneRecord} {f : Int} {b : Band} {rise : Nat}

/-! ### The candidate (R109) -/

theorem reaches_iff {edge : Option Int} : reaches edge f = true ↔ ∃ e, edge = some e ∧ e ≤ f := by
  cases edge <;> simp [reaches]

theorem keeps_iff {edge : Option Int} {h : Nat} : keeps edge h f = true ↔ ∃ e, edge = some e ∧ e - h ≤ f := by
  cases edge <;> simp [keeps]

theorem candidateIsTheHighestReached : CandidateIsTheHighestReached := by
  intro z f reached
  have hiff (edge : Option Int) : reached edge ↔ reaches edge f = true := reaches_iff.symm
  simp only [hiff, candidateBand]
  cases reaches z.limit f <;> cases reaches z.alarm f <;> cases reaches z.watch f <;> decide

/-! ### The rise (R110) -/

/-- A candidate above the band counts one more, and at the persistence the band rises to it. -/
theorem riseOrFall_of_above (h : bandRank b < bandRank (candidateBand z f)) :
    riseOrFall z f b rise = if z.persistence ≤ rise + 1 then (candidateBand z f, 0) else (b, rise + 1) := if_pos h

theorem riseOrFall_of_not_above (h : bandRank (candidateBand z f) ≤ bandRank b) :
    riseOrFall z f b rise = (fallBand z f b, 0) := if_neg (Nat.not_lt.2 h)

/-- The band and the rise counter after the computations of a run of values. -/
def bandRun (z : ZoneRecord) (b : Band) (fs : List Int) : Band × Nat :=
  fs.foldl (fun st f => riseOrFall z f st.1 st.2) (b, 0)

theorem bandRun_concat (fs : List Int) :
    bandRun z b (fs ++ [f]) = riseOrFall z f (bandRun z b fs).1 (bandRun z b fs).2 :=
  List.foldl_concat ..

/-- A run of candidates above the band that is shorter than the persistence is only counted. -/
theorem bandRun_short (fs : List Int) (habove : ∀ f ∈ fs, bandRank b < bandRank (candidateBand z f))
    (hlen : fs.length < z.persistence) : bandRun z b fs = (b, fs.length) := by
  induction fs using List.reverseRecOn with
  | nil => rfl
  | append_singleton fs f ih =>
    rw [List.length_append, List.length_singleton] at hlen ⊢
    have hf := habove f (by simp)
    rw [bandRun_concat, ih (fun x hx => habove x (by simp [hx])) (by omega), riseOrFall_of_above hf,
      if_neg (by omega)]

theorem riseTakesPersistence : RiseTakesPersistence := by
  intro z b fs _ hpos habove run
  refine ⟨bandRun_short fs habove, ?_⟩
  rintro gs f rfl hlen
  rw [List.length_append, List.length_singleton] at hlen
  have hrun : run = riseOrFall z f (bandRun z b gs).1 (bandRun z b gs).2 := bandRun_concat gs
  rw [hrun, bandRun_short gs (fun x hx => habove x (by simp [hx])) (by omega),
    riseOrFall_of_above (habove f (by simp)), if_pos (by omega)]

/-! ### The fall (R111) -/

/-- The edge of a band in a zone's record. -/
def edgeOf (z : ZoneRecord) : Band → Option Int
  | .watch => z.watch
  | .alarm => z.alarm
  | .limit => z.limit
  | _ => none

/-- The value still holds a band by the hysteresis; NORMAL is held by any value. -/
def holdsBand (z : ZoneRecord) (f : Int) (x : Band) : Bool := x == .normal || keeps (edgeOf z x) z.hysteresis f

theorem holdsBand_iff {x : Band} :
    holdsBand z f x = true ↔ x = .normal ∨ ∃ e, edgeOf z x = some e ∧ e - z.hysteresis ≤ f := by
  rw [holdsBand, Bool.or_eq_true, beq_iff_eq, keeps_iff]

theorem eq_limit_of_bandRank (h : 3 ≤ bandRank b) : b = .limit := by
  cases b with
  | limit => rfl
  | _ => exact absurd h (by decide)

/-- The fall ends at a band, not above the present one, that the value holds. -/
theorem fallBand_holds (z : ZoneRecord) (f : Int) (b : Band) :
    fallBand z f b ≠ .held ∧ bandRank (fallBand z f b) ≤ bandRank b ∧ holdsBand z f (fallBand z f b) = true := by
  rw [fallBand]
  split
  next hlimit =>
    obtain ⟨rfl, hkeeps⟩ : b = .limit ∧ keeps z.limit z.hysteresis f = true := by simpa using hlimit
    exact ⟨by decide, le_rfl, hkeeps⟩
  next =>
    split
    next halarm =>
      rw [Bool.and_eq_true, decide_eq_true_eq] at halarm
      exact ⟨by decide, halarm⟩
    next =>
      split
      next hwatch =>
        rw [Bool.and_eq_true, decide_eq_true_eq] at hwatch
        exact ⟨by decide, hwatch⟩
      next => exact ⟨by decide, Nat.zero_le _, rfl⟩

/-- No band between the one the fall ends at and the present one is held by the value. -/
theorem le_fallBand {x : Band} (hx : x ≠ .held) (hle : bandRank x ≤ bandRank b) (hholds : holdsBand z f x = true) :
    bandRank x ≤ bandRank (fallBand z f b) := by
  rw [fallBand]
  cases x with
  | held => exact absurd rfl hx
  | normal => exact Nat.zero_le _
  | limit =>
    have hkeeps : keeps z.limit z.hysteresis f = true := hholds
    rw [if_pos (by simp [eq_limit_of_bandRank hle, hkeeps])]
  | alarm =>
    have hkeeps : keeps z.alarm z.hysteresis f = true := hholds
    have hrank : 2 ≤ bandRank b := hle
    split
    next => decide
    next => rw [if_pos (by simp [hrank, hkeeps])]
  | watch =>
    have hkeeps : keeps z.watch z.hysteresis f = true := hholds
    have hrank : 1 ≤ bandRank b := hle
    split
    next => decide
    next =>
      split
      next => decide
      next => rw [if_pos (by simp [hrank, hkeeps])]

theorem fallIsAtOnceWithHysteresis : FallIsAtOnceWithHysteresis := by
  intro z b rise f _ hcandidate edge holds after
  obtain ⟨hne, hle, hholds⟩ := fallBand_holds z f b
  have hafter : after = (fallBand z f b, 0) := riseOrFall_of_not_above hcandidate
  have hiff (x : Band) : holds x ↔ holdsBand z f x = true := by
    rw [holdsBand_iff]
    cases x <;> rfl
  rw [hafter]
  exact ⟨rfl, hne, hle, (hiff _).2 hholds, fun x hx hrank hx' => le_fallBand hx hrank ((hiff x).1 hx')⟩

/-- The cap of R112 takes an ESTIMATED cell down to WATCH. -/
theorem capBand_of_estimated {q : Quality} (h : q = .estimated ∧ (b = .alarm ∨ b = .limit)) :
    capBand q b = .watch := by
  obtain ⟨rfl, rfl | rfl⟩ := h <;> rfl

theorem capBand_of_not_capped {q : Quality} (h : ¬ (q = .estimated ∧ (b = .alarm ∨ b = .limit))) :
    capBand q b = b := by
  refine if_neg fun hcap => h ?_
  simp only [Bool.and_eq_true, decide_eq_true_eq] at hcap
  obtain ⟨hq, hrank⟩ := hcap
  refine ⟨hq, ?_⟩
  cases b with
  | alarm => exact .inl rfl
  | limit => exact .inr rfl
  | _ => exact absurd hrank (by decide)

end Sys2Proof.Machine
end

section
/-! PROOF. The checks of stages 7 and 8 (R113, R116 to R119, R121, R123) and the log enable (R98): where a check runs and what it leaves. -/

namespace Sys2Proof.Machine

variable {z : ZoneRecord} {f : Int} {b : Binding} {image : ScanImage} {c : CellState}

/-! ### The table of the checks -/

/-- A step of a check goes by the table of R119, R121 and R123. -/
theorem stepCheck_table (persistence : Nat) (above : Prop) [Decidable above] (count : Nat) (flag : Bool) :
    CheckTable persistence above count flag (stepCheck persistence (decide above) count flag).1
      (stepCheck persistence (decide above) count flag).2 := by
  by_cases h : above <;> cases flag <;> simp [CheckTable, stepCheck, h]

/-! ### The inputs of the checks -/

/-- The engine finds a usable reading just where the channel has one. -/
theorem usableReading_eq_some_iff {readings : Vector Reading 96} {channel : Option ChannelNo} {v : Int}
    {r : Reading} : usableReading readings channel = some (v, r) ↔ UsableFor readings channel r v := by
  constructor
  · intro h
    obtain ⟨n, rfl, hread⟩ := Option.bind_eq_some_iff.1 h
    split at hread
    next husable =>
      obtain ⟨_, hvalue, hpair⟩ := Option.map_eq_some_iff.1 hread
      obtain ⟨rfl, rfl⟩ := Prod.mk.inj hpair
      exact ⟨n, rfl, rfl, husable, hvalue⟩
    next => exact absurd hread nofun
  · rintro ⟨n, rfl, rfl, husable, hvalue⟩
    rw [usableReading, Option.bind_some, if_pos husable, hvalue, Option.map_some]

theorem usableReading_eq_none {readings : Vector Reading 96} {channel : Option ChannelNo}
    (h : ∀ r v, ¬ UsableFor readings channel r v) : usableReading readings channel = none :=
  Option.eq_none_iff_forall_ne_some.2 fun ⟨v, r⟩ hx => h r v (usableReading_eq_some_iff.1 hx)

/-- The rate check of a GOOD cell with a valid previous value and a limit runs (R119). -/
theorem rateCheck_runs {limit p : Int} (hgood : c.quality = .good) (hvalid : c.prevValid = true)
    (hlimit : z.rateLimit = some limit) (hf : c.filtered = some f) (hp : c.prevFiltered = some p) (interval : Nat) :
    rateCheck z interval c =
      stepCheck z.persistence (decide (limit < roundDiv ((f - p) * 60) interval)) c.rateCount c.flags.rate := by
  simp [rateCheck, rateInput, rateOf, hgood, hvalid, hlimit, hf, hp]

/-- Where the rate check does not run its counter is 0 and its flag stays. -/
theorem rateCheck_rests (h : c.quality ≠ .good ∨ c.prevValid = false ∨ z.rateLimit = none) (interval : Nat) :
    rateCheck z interval c = (0, c.flags.rate) := by
  have hinput : rateInput z interval c = none := by
    rcases h with hquality | hvalid | hlimit
    · simp [rateInput, hquality]
    · simp [rateInput, hvalid]
    · simp [rateInput, hlimit]
  rw [rateCheck, hinput]

/-- The disagreement check of two usable readings with a limit runs (R121). -/
theorem disagreeCheck_runs {readings : Vector Reading 96} {limit v w : Int} {r q : Reading}
    (hlimit : z.discrepancy = some limit) (hprimary : UsableFor readings b.primary r v)
    (hsecondary : UsableFor readings b.secondary q w) :
    disagreeCheck z b readings c =
      stepCheck z.persistence (decide (limit < ((v - w).natAbs : Int))) c.disagreeCount c.flags.disagree := by
  simp only [disagreeCheck, disagreeInput, hlimit, usableReading_eq_some_iff.2 hprimary,
    usableReading_eq_some_iff.2 hsecondary]

/-- Where the disagreement check cannot run its counter and its flag stay. -/
theorem disagreeCheck_rests {readings : Vector Reading 96}
    (h : z.discrepancy = none ∨ (∀ r v, ¬ UsableFor readings b.primary r v)
      ∨ ∀ q w, ¬ UsableFor readings b.secondary q w) :
    disagreeCheck z b readings c = (c.disagreeCount, c.flags.disagree) := by
  have hinput : disagreeInput z b readings = none := by
    rcases h with hlimit | hprimary | hsecondary
    · simp [disagreeInput, hlimit]
    · simp [disagreeInput, usableReading_eq_none hprimary]
    · simp [disagreeInput, usableReading_eq_none hsecondary]
  rw [disagreeCheck, hinput]

/-! ### Stage 7 on one cell (R108) -/

/-- A cell that is not VOID, in a pass neither held nor released, is classified. -/
theorem classifyCell_of_value (h : c.quality ≠ .void) :
    classifyCell false false z b image c =
      { classifyValue z b image c with prevValid := c.quality == .good } := by
  simp [classifyCell, h]

/-- Each field of the classified cell is that of one rule; the two checks are taken from their inputs. -/
theorem classificationStage : ClassificationStage := by
  intro z b image c f hvoid hf d moved
  have hd : d = { classifyValue z b image c with prevValid := c.quality == .good } := classifyCell_of_value hvoid
  have hmoved : riseOrFall z (c.filtered.getD 0) c.band c.riseCount = moved := by rw [hf]; rfl
  have hrise : d.riseCount = moved.2 := by rw [hd, ← hmoved]; rfl
  have hband : d.band = capBand c.quality moved.1 := by rw [hd, ← hmoved]; rfl
  have hrate : (d.rateCount, d.flags.rate) = rateCheck z image.interval c := by rw [hd]; rfl
  have hdisagree : (d.disagreeCount, d.flags.disagree) = disagreeCheck z b image.readings c := by rw [hd]; rfl
  refine ⟨hrise, fun hcap => hband.trans (capBand_of_estimated hcap),
    fun hfree => hband.trans (capBand_of_not_capped hfree), fun limit p hgood hvalid hlimit hp => ?_,
    fun hrests => ?_, fun limit r v q w hlimit hprimary hsecondary => ?_, fun hrests => ?_, ?_, ?_⟩
  · rw [rateCheck_runs hgood hvalid hlimit hf hp, Prod.mk.injEq] at hrate
    rw [hrate.1, hrate.2]
    exact stepCheck_table ..
  · rwa [rateCheck_rests hrests, Prod.mk.injEq] at hrate
  · rw [disagreeCheck_runs hlimit hprimary hsecondary, Prod.mk.injEq] at hdisagree
    rw [hdisagree.1, hdisagree.2]
    exact stepCheck_table ..
  · rwa [disagreeCheck_rests hrests, Prod.mk.injEq] at hdisagree
  · rw [hd]
    exact beq_iff_eq
  · rw [hd]
    rfl

theorem heldVoidAndReleasedCells : HeldVoidAndReleasedCells := by
  intro z b image c released
  refine ⟨?_, fun hvoid => ?_, fun hvoid => ?_⟩
  · simp [classifyCell, clearedChecks, ChecksCleared]
  · cases released <;> simp [classifyCell, clearedChecks, ChecksCleared, hvoid]
  · simp [classifyCell, clearedChecks, ChecksCleared, hvoid]

/-! ### The spread check of stage 8 (R123) -/

section
variable {persistence : Nat} {spread : Option Int} {e : PassEntry}

theorem spreadCheck_of_held (h : e.held = true) :
    spreadCheck persistence spread e = { e with spreadCount := 0, spreadFlag := false } := if_pos h

theorem spreadCheck_of_noLimit (h : e.held = false) (hlimit : e.spreadLimit = none) :
    spreadCheck persistence spread e = { e with spreadFlag := false } := by
  simp only [spreadCheck, h, hlimit, Bool.false_eq_true, if_false]

theorem spreadCheck_of_noSpread (h : e.held = false) (hlimit : e.spreadLimit.isSome = true) :
    spreadCheck persistence none e = { e with spreadCount := 0 } := by
  obtain ⟨limit, hlimit⟩ := Option.isSome_iff_exists.1 hlimit
  simp only [spreadCheck, h, hlimit, Bool.false_eq_true, if_false]

theorem spreadCheck_runs {limit x : Int} (h : e.held = false) (hlimit : e.spreadLimit = some limit) :
    spreadCheck persistence (some x) e =
      { e with
        spreadCount := (stepCheck persistence (decide (limit < x)) e.spreadCount e.spreadFlag).1
        spreadFlag := (stepCheck persistence (decide (limit < x)) e.spreadCount e.spreadFlag).2 } := by
  simp only [spreadCheck, h, hlimit, Bool.false_eq_true, if_false]

/-- The spread check moves its counter and its flag alone. -/
theorem spreadCheck_frame (persistence : Nat) (spread : Option Int) (e : PassEntry) :
    ∃ count flag, spreadCheck persistence spread e = { e with spreadCount := count, spreadFlag := flag } := by
  unfold spreadCheck
  split
  · exact ⟨_, _, rfl⟩
  · split <;> exact ⟨_, _, rfl⟩

end

theorem spreadCheckStage : SpreadCheckStage := by
  intro persistence spread e d
  refine ⟨fun hheld => ?_, fun hheld hlimit => ?_, fun hheld hlimit hspread => ?_,
    fun limit x hheld hlimit hspread => ?_, ?_⟩
  · rw [show d = _ from spreadCheck_of_held hheld]
    exact ⟨rfl, rfl⟩
  · rw [show d = _ from spreadCheck_of_noLimit hheld hlimit]
  · subst hspread
    rw [show d = _ from spreadCheck_of_noSpread hheld hlimit]
    exact ⟨rfl, rfl⟩
  · subst hspread
    rw [show d = _ from spreadCheck_runs hheld hlimit]
    exact stepCheck_table ..
  · obtain ⟨count, flag, hframe⟩ := spreadCheck_frame persistence spread e
    rw [show d = _ from hframe]

/-! ### The log enable (R98) -/

section
variable {i : CellIndex} {held released bound : Bool} {old new : CellState} {m : MapEngine} {comp : Computation}
  {p : PassNo} {r : RecordBody}

theorem subject_of_mem_sourceRecord (h : r ∈ sourceRecord image i bound old new) : r.subject = .cell i := by
  rw [sourceRecord] at h
  split at h
  · split at h
    · rw [List.mem_singleton.1 h]; rfl
    · split at h
      · rw [List.mem_singleton.1 h]; rfl
      · exact absurd h List.not_mem_nil
  · exact absurd h List.not_mem_nil

theorem subject_of_mem_bandRecord (h : r ∈ bandRecord image i released old new) : r.subject = .cell i := by
  simp only [bandRecord] at h
  split at h
  · exact absurd h List.not_mem_nil
  · rw [List.mem_singleton.1 h]; rfl

theorem subject_of_mem_rateRecord (h : r ∈ rateRecord image i held released old new) : r.subject = .cell i := by
  simp only [rateRecord] at h
  split at h
  · exact absurd h List.not_mem_nil
  · rw [List.mem_singleton.1 h]; rfl

theorem subject_of_mem_disagreeRecord (h : r ∈ disagreeRecord image i held released b old new) :
    r.subject = .cell i := by
  simp only [disagreeRecord] at h
  split at h
  · exact absurd h List.not_mem_nil
  · rw [List.mem_singleton.1 h]; rfl

/-- A cell's records are about it, and a cell with log enable no has none. -/
theorem subject_of_mem_cellRecords (h : r ∈ cellRecords image i held released b old new) :
    r.subject = .cell i ∧ b.logEnable = true := by
  rw [cellRecords] at h
  split at h
  next hlog =>
    simp only [List.mem_append] at h
    refine ⟨?_, hlog⟩
    rcases h with ((hsource | hband) | hrate) | hdisagree
    · exact subject_of_mem_sourceRecord hsource
    · exact subject_of_mem_bandRecord hband
    · exact subject_of_mem_rateRecord hrate
    · exact subject_of_mem_disagreeRecord hdisagree
  next => exact absurd h List.not_mem_nil

theorem subject_of_mem_recordsOfCell (h : r ∈ recordsOfCell m comp i) :
    r.subject = .cell i ∧ isPresent m.passes i = true ∧ m.bindings[i].logEnable = true := by
  rw [recordsOfCell] at h
  split at h
  next hpresent =>
    obtain ⟨hsubject, hlog⟩ := subject_of_mem_cellRecords h
    exact ⟨hsubject, hpresent, hlog⟩
  next => exact absurd h List.not_mem_nil

theorem subject_of_mem_holdRecord (h : r ∈ holdRecord comp p) : r.subject = .pass p := by
  rw [holdRecord] at h
  split at h
  · rw [List.mem_singleton.1 h]; rfl
  · rw [List.mem_singleton.1 h]; rfl
  · exact absurd h List.not_mem_nil

theorem subject_of_mem_spreadRecord (h : r ∈ spreadRecord m comp p) : r.subject = .pass p := by
  simp only [spreadRecord] at h
  split at h
  · exact absurd h List.not_mem_nil
  · rw [List.mem_singleton.1 h]; rfl

/-- A record of a publication about a cell is one of that cell's. -/
theorem mem_recordsOfCell_of_subject (h : r ∈ publicationRecords m comp) (hr : r.subject = .cell i) :
    r ∈ recordsOfCell m comp i := by
  obtain ⟨p, -, h⟩ := List.mem_flatMap.1 h
  rcases List.mem_append.1 h with h | hspread
  · rcases List.mem_append.1 h with hhold | hcells
    · exact absurd (hr.symm.trans (subject_of_mem_holdRecord hhold)) nofun
    · obtain ⟨j, -, hj⟩ := List.mem_flatMap.1 hcells
      obtain rfl : i = j := Subject.cell.inj (hr.symm.trans (subject_of_mem_recordsOfCell hj).1)
      exact hj
  · exact absurd (hr.symm.trans (subject_of_mem_spreadRecord hspread)) nofun

end

theorem logEnableSuppresses : LogEnableSuppresses := fun _ _ _ _ hr hsubject =>
  (subject_of_mem_recordsOfCell (mem_recordsOfCell_of_subject hr hsubject)).2

/-- Settles O43, part by part: the candidate, the rise and the fall of a band from their equations, the checks
from the table they share, and the log enable from the subjects of the records. -/
theorem bandsRiseAndFall : Obligations.BandsRiseAndFall :=
  ⟨riseTakesPersistence, fallIsAtOnceWithHysteresis, candidateIsTheHighestReached, classificationStage,
    heldVoidAndReleasedCells, spreadCheckStage, logEnableSuppresses⟩

end Sys2Proof.Machine
end

section
/-! PROOF. TREND_SET (R125 to R127, R136): the slots of an allocation, the configuration of a payload, and what the owner answers. -/

namespace Sys2Proof.Machine

variable {s : State} {t : Trend} {p : PassNo} {a c : TrendConfig} {b mode base ring valid : Byte} {pl : List Byte}

/-! ### The slots of an allocation (R126) -/

theorem ringSlots_pos (size : RingSize) : 0 < ringSlots size := by cases size <;> decide

/-- An allocation is never empty. -/
theorem allocation_pos {first n : Nat} (h : allocation c = some (first, n)) : 0 < n := by
  cases c with
  | off => cases h
  | snapshot => cases h; decide
  | paired => cases h; decide
  | ring _ size => cases h; exact ringSlots_pos size

theorem not_inAllocation_of_none (h : allocation c = none) (slot : Nat) : ¬ inAllocation c slot = true := by
  rw [inAllocation, h]; exact Bool.false_ne_true

theorem inAllocation_iff_of_some {first n : Nat} (h : allocation c = some (first, n)) (slot : Nat) :
    inAllocation c slot = true ↔ first ≤ slot ∧ slot < first + n := by
  rw [inAllocation, h, Bool.and_eq_true, decide_eq_true_eq, decide_eq_true_eq]

/-- The check of an allocation's last slot is one of all its slots. -/
theorem fitsPool_iff : fitsPool c = true ↔ ∀ slot, inAllocation c slot = true → slot < 256 := by
  rcases h : allocation c with _ | ⟨first, n⟩
  · simp [fitsPool, h, not_inAllocation_of_none h]
  · have hpos := allocation_pos h
    simp only [fitsPool, h, decide_eq_true_eq, inAllocation_iff_of_some h]
    constructor
    · intro hfit slot hslot
      omega
    · intro hslots
      have hlast := hslots (first + n - 1) (by omega)
      omega

/-- The check of two allocations' bounds finds just whether they share a slot: the greater base slot. -/
theorem overlaps_iff : overlaps a c = true ↔ ∃ slot, inAllocation a slot = true ∧ inAllocation c slot = true := by
  rcases ha : allocation a with _ | ⟨x, m⟩
  · simp [overlaps, ha, not_inAllocation_of_none ha]
  rcases hc : allocation c with _ | ⟨y, n⟩
  · simp [overlaps, ha, hc, not_inAllocation_of_none hc]
  have hm := allocation_pos ha
  have hn := allocation_pos hc
  simp only [overlaps, ha, hc, Bool.and_eq_true, decide_eq_true_eq, inAllocation_iff_of_some ha,
    inAllocation_iff_of_some hc]
  constructor
  · intro hbounds
    exact ⟨max x y, by omega, by omega⟩
  · rintro ⟨slot, hx, hy⟩
    omega

/-- The allocation is in the pool and shares no slot with another pass's (R127). -/
def Trend.Admits (t : Trend) (p : PassNo) (c : TrendConfig) : Prop :=
  (∀ n, inAllocation c n = true → n < 256)
    ∧ ∀ (q : PassNo) (n : Nat), q ≠ p → inAllocation c n = true → inAllocation t.passes[q].config n = false

theorem trendConflict_eq_false_iff : trendConflict t p c = false ↔
    ∀ (q : PassNo) (n : Nat), q ≠ p → inAllocation c n = true → inAllocation t.passes[q].config n = false := by
  simp only [trendConflict, List.any_eq_false, List.mem_finRange, true_imp_iff, Bool.and_eq_true, bne_iff_ne,
    overlaps_iff, not_and, not_exists, Bool.not_eq_true]
  exact ⟨fun h q n hq => h q hq n, fun h q hq n => h q n hq⟩

/-- The owner refuses just the allocations that are not admitted. -/
theorem admits_iff : t.Admits p c ↔ (!fitsPool c || trendConflict t p c) = false := by
  rw [Bool.or_eq_false_iff, Bool.not_eq_false', fitsPool_iff, trendConflict_eq_false_iff, Trend.Admits]

/-! ### The configuration of a payload (R127, section 11.5) -/

theorem ringSizeOf_ringSlots (size : RingSize) : ringSizeOf (ringSlots size) = some size := by
  cases size <;> rfl

theorem ringSlots_lt (size : RingSize) : ringSlots size < 256 := by cases size <;> decide

theorem ringSizeOf_none {n : Nat} (h : n ∉ [8, 16, 32, 64, 128]) : ringSizeOf n = none := by
  unfold ringSizeOf
  split
  case h_6 => rfl
  all_goals exact absurd (by decide) h

/-- A RING is read where its size and its valid-only field are both in range. -/
theorem payloadTrend_ring (base : Fin 256) :
    payloadTrend [b, 3, put8 base.val, ring, valid] =
      (ringSizeOf ring.toNat).bind fun size => (yesNo valid.toNat).map (.ring base size) := by
  simp only [payloadTrend, u8_succ, u8_zero, below_put8 le_rfl base]
  cases ringSizeOf ring.toNat <;> cases yesNo valid.toNat <;> rfl

/-- The configuration that the bytes ask for is read, whatever the fields that its mode does not use. -/
theorem payloadTrend_of_asked (h : TrendAsked mode base ring valid c) :
    payloadTrend [b, mode, base, ring, valid] = some c := by
  cases c with
  | off =>
    obtain rfl := h
    rfl
  | snapshot slot =>
    obtain ⟨rfl, rfl⟩ := h
    simp only [payloadTrend, u8_succ, u8_zero, below_put8 le_rfl slot]
    rfl
  | paired slot =>
    obtain ⟨rfl, rfl⟩ := h
    simp only [payloadTrend, u8_succ, u8_zero, below_put8 le_rfl slot]
    rfl
  | ring slot size validOnly =>
    obtain ⟨rfl, rfl, rfl, rfl⟩ := h
    rw [payloadTrend_ring, put8_toNat, Nat.mod_eq_of_lt (ringSlots_lt size), ringSizeOf_ringSlots, yesNo_putBool]
    rfl

theorem payloadTrend_none_of_mode (h : 4 ≤ mode.toNat) : payloadTrend [b, mode, base, ring, valid] = none := by
  simp only [payloadTrend, u8_succ, u8_zero]
  split
  case h_5 => rfl
  all_goals omega

theorem payloadTrend_none_of_ring (h : ring.toNat ∉ [8, 16, 32, 64, 128] ∨ 1 < valid.toNat) :
    payloadTrend [b, 3, base, ring, valid] = none := by
  have hbase : base = put8 base.toFin.val := by simp [put8]
  rw [hbase, payloadTrend_ring]
  rcases h with hring | hvalid
  · rw [ringSizeOf_none hring, Option.bind_none]
  · simp only [yesNo_none.2 hvalid, Option.map_none, Option.bind_fun_none]

/-! ### What the owner answers (R127, R136) -/

@[simp] theorem emptySlots_get (pool : Vector (Option Frame) 256) (n : Fin 256) :
    (emptySlots c pool)[n] = if inAllocation c n.val = true then none else pool[n] := by
  simp only [emptySlots, Fin.getElem_fin, tab_get]

/-- A configuration written empties the pass's new slots and its old ones, and no other slot. -/
theorem configure_pool_get (n : Fin 256) : (t.configure p c).pool[n] =
    if inAllocation c n.val = true ∨ inAllocation t.passes[p].config n.val = true then none else t.pool[n] := by
  rw [Trend.configure, emptySlots_get, emptySlots_get, ite_or]

theorem serveTrendSet_state (h : s.op.state ≠ .stopped) : serveTrendSet pl s = answer .state s := if_pos h

theorem serveTrendSet_range (hs : s.op.state = .stopped) (h : 4 ≤ b.toNat ∨ 4 ≤ mode.toNat
      ∨ (mode = 3 ∧ (ring.toNat ∉ [8, 16, 32, 64, 128] ∨ 1 < valid.toNat))) :
    serveTrendSet [b, mode, base, ring, valid] s = answer .range s := by
  rw [serveTrendSet, if_neg (not_not.2 hs), u8_zero]
  rcases h with hpass | hmode | ⟨rfl, hring⟩
  · rw [below_none.2 hpass]
  · rw [payloadTrend_none_of_mode hmode]
    cases below 4 b.toNat <;> rfl
  · rw [payloadTrend_none_of_ring hring]
    cases below 4 b.toNat <;> rfl

/-- In STOPPED a configuration that is read is judged by its slots alone. -/
theorem serveTrendSet_asked (hs : s.op.state = .stopped) (h : TrendAsked mode base ring valid c) :
    serveTrendSet [put8 p.val, mode, base, ring, valid] s =
      if !fitsPool c || trendConflict s.trend p c then answer .conflict s
      else answer .done { s with trend := s.trend.configure p c } := by
  rw [serveTrendSet, if_neg (not_not.2 hs), u8_zero, below_put8 (by decide) p, payloadTrend_of_asked h]

theorem serveTrendSet_conflict (hs : s.op.state = .stopped) (h : TrendAsked mode base ring valid c)
    (hbad : ¬ s.trend.Admits p c) :
    serveTrendSet [put8 p.val, mode, base, ring, valid] s = answer .conflict s := by
  rw [admits_iff, Bool.not_eq_false] at hbad
  rw [serveTrendSet_asked hs h, if_pos hbad]

theorem serveTrendSet_done (hs : s.op.state = .stopped) (h : TrendAsked mode base ring valid c)
    (hfits : s.trend.Admits p c) :
    serveTrendSet [put8 p.val, mode, base, ring, valid] s =
      answer .done { s with trend := s.trend.configure p c } := by
  rw [serveTrendSet_asked hs h, admits_iff.1 hfits]
  rfl

/-- Settles O44: the owner's answer in each case, put through the taking of a request. The owner's checks of
bounds are statements about single slots, and the slots of the configured store are read one by one. -/
theorem trendSetAllocates : Obligations.TrendSetAllocates := by
  intro s port b mode base ring valid ht
  refine ⟨fun hs => exec_of_refusal ht rfl (by decide) (serveTrendSet_state hs),
    fun hs hbad => exec_of_range ht rfl (serveTrendSet_range hs hbad), ?_⟩
  rintro p c rfl hasked hs
  refine ⟨fun hbad => exec_of_refusal ht rfl (by decide) (serveTrendSet_conflict hs hasked hbad), fun hfits => ?_⟩
  exact ⟨{ s with trend := s.trend.configure p c }, exec_of_done ht rfl (serveTrendSet_done hs hasked hfits),
    rfl, configure_pool_get, rfl⟩

end Sys2Proof.Machine
end

section
/-! PROOF. The Excursion Log's operations (R143, R149): what the slots and the held records are after a record is taken and after a clear. -/

namespace Sys2Proof.Machine

variable {l : Log} {b : RecordBody} {d : Nat}

/-! ### The slots -/

/-- The taking of a record writes the slot at the write position and no other (R143). -/
@[simp] theorem Log.take_slots_get (l : Log) (b : RecordBody) (n : Fin 256) :
    (l.take b).slots[n] = if l.writePosition = n then some ⟨l.nextSequence, b⟩ else l.slots[n] := by
  simp only [Log.take, Fin.getElem_fin, upd_get, Fin.ext_iff]

/-- LOG_CLEAR empties every slot (R149). -/
@[simp] theorem Log.clear_slots_get (l : Log) (n : Fin 256) : l.clear.slots[n] = none := by
  simp only [Log.clear, Fin.getElem_fin, fill_get]

@[simp] theorem Log.reset_slots_get (n : Fin 256) : Log.reset.slots[n] = none := by
  simp only [Log.reset, Fin.getElem_fin, fill_get]

/-! ### The positions -/

theorem Log.take_writePosition_val : (l.take b).writePosition.val = (l.writePosition.val + 1) % 256 :=
  Fin.val_add l.writePosition 1

theorem Log.take_count : (l.take b).count = min (l.count + 1) 256 := by
  unfold Log.take
  dsimp only
  split <;> omega

theorem Log.take_of_count_lt (h : l.count < 256) :
    (l.take b).count = l.count + 1 ∧ (l.take b).oldest = l.oldest :=
  ⟨if_pos h, if_pos h⟩

theorem Log.take_of_full (h : l.count = 256) :
    (l.take b).count = 256 ∧ (l.take b).oldest = l.oldest + 1 := by
  have hfull : ¬ l.count < 256 := h.not_lt
  exact ⟨if_neg hfull, if_neg hfull⟩

/-! ### The held records, counted from the oldest (R139, R140) -/

theorem Log.recordAt_eq_slot (n : Fin 256) (h : (l.writePosition.val + 256 - min l.count 256 + d) % 256 = n.val) :
    l.recordAt d = l.slots[n] := by
  obtain rfl : (⟨_, Nat.mod_lt _ (by decide)⟩ : Fin 256) = n := Fin.ext h
  rfl

/-- The log's law, said of the records at each distance from the oldest. -/
theorem logLaw_iff : LogLaw l ↔ l.count ≤ 256
    ∧ (∀ d < l.count, ∃ r, l.recordAt d = some r ∧ r.sequence = l.oldest + BitVec.ofNat 16 d)
    ∧ ∀ d < 256, l.count ≤ d → l.recordAt d = none := by
  refine and_congr_right fun hc => ?_
  have hslot (d : Nat) : l.recordAt d =
      l.slots[(⟨(l.writePosition.val + 256 - l.count + d) % 256, by omega⟩ : Fin 256)] :=
    Log.recordAt_eq_slot _ (by rw [Nat.min_eq_left hc])
  constructor
  · intro h
    refine ⟨fun d hd => ?_, fun d hd hge => ?_⟩
    · simpa only [← hslot, if_pos hd] using h ⟨d, by omega⟩
    · simpa only [← hslot, if_neg hge.not_gt] using h ⟨d, hd⟩
  · rintro ⟨hheld, hempty⟩ d
    simp only [← hslot]
    split
    · exact hheld d ‹_›
    · exact hempty d d.isLt (by omega)

/-- The record taken is the newest of those held. -/
theorem Log.recordAt_take_newest (hd : d + 1 = (l.take b).count) :
    (l.take b).recordAt d = some ⟨l.nextSequence, b⟩ := by
  rw [take_count] at hd
  rw [recordAt_eq_slot l.writePosition, take_slots_get, if_pos rfl]
  rw [take_writePosition_val, take_count]
  omega

/-- Every other place holds what it held before: what lies `d` from the oldest now lay one place nearer to the
write position. -/
theorem Log.recordAt_take_of_ne {e : Nat} (hc : l.count ≤ 256) (hd : d < 256) (hne : d + 1 ≠ (l.take b).count)
    (he : e + (l.take b).count = d + l.count + 1) : (l.take b).recordAt d = l.recordAt e := by
  rw [take_count] at hne he
  have hplace : (l.writePosition.val + 256 - min l.count 256 + e) % 256 < 256 := Nat.mod_lt _ (by decide)
  rw [recordAt_eq_slot ⟨_, hplace⟩, take_slots_get, if_neg, ← recordAt_eq_slot _ rfl]
  · rw [Fin.ext_iff]
    dsimp only
    omega
  · rw [take_writePosition_val, take_count]
    dsimp only
    omega

/-- Settles O48: the record, the slots and the positions after a taking; LOG_CLEAR by what its owner answers. -/
theorem logTakesAndClears : Obligations.LogTakesAndClears := by
  refine ⟨fun l b => ?_, fun s p ht => ?_, byDefault_isReadKind .logClear⟩
  · refine ⟨?_, fun n hn => ?_, rfl, Log.take_of_count_lt, Log.take_of_full, rfl⟩
    · rw [Log.take_slots_get, if_pos rfl, Log.nextSequence]
    · rw [Log.take_slots_get, if_neg hn.symm]
  · exact ⟨{ s with log := s.log.clear }, exec_of_done ht rfl rfl, Log.clear_slots_get s.log, rfl, rfl, rfl, rfl⟩

end Sys2Proof.Machine
end

section
/-! PROOF. The log's law (R140): the taking of a record, LOG_CLEAR and the resets keep it, and a step does nothing else to the log. -/

namespace Sys2Proof.Machine

/-! ### What a step does to the log -/

/-- What the taking of a record and LOG_CLEAR keep and the reset log has: no step touches the log otherwise. -/
structure LogClosed (Q : Log → Prop) : Prop where
  take : ∀ l b, Q l → Q (l.take b)
  clear : ∀ l, Q l → Q l.clear
  reset : Q Log.reset

namespace LogClosed

variable {Q : Log → Prop} (h : LogClosed Q)
include h

theorem stateFlowClosed : StateFlowClosed fun s => Q s.log where
  transit _ _ hs := hs
  draws _ _ hs := hs
  logged s b hs := h.take s.log b hs
  arrived _ _ hs := hs

theorem imageArrives (s : State) (image : ScanImage) (hs : Q s.log) : Q (s.imageArrives image).log := by
  unfold State.imageArrives
  dsimp only
  split
  · exact hs
  · exact hs
  · exact h.stateFlowClosed.emit _ _ hs

theorem giveReading (s : State) (c : ChannelNo) (r : Reading) (hs : Q s.log) : Q (s.giveReading c r).log := by
  unfold State.giveReading
  dsimp only
  split
  · exact h.stateFlowClosed.emit _ _ hs
  · exact hs

theorem publish (s : State) (hs : Q s.log) : Q s.publish.log := by
  unfold State.publish
  split
  · exact hs
  · exact h.stateFlowClosed.send _ _ hs

theorem eventClosed : EventClosed fun s => Q s.log where
  toStateFlowClosed := h.stateFlowClosed
  outstanding _ _ hs := hs
  asked _ _ hs := hs
  delivered _ _ _ hs := h.imageArrives _ _ hs
  card _ _ _ _ hs := hs
  due _ _ hs := hs
  opened _ hs := hs
  reading s c r _ hs := h.giveReading s c r hs

theorem ownerClosed : OwnerClosed fun s => Q s.log where
  toEventClosed := h.eventClosed
  conditions _ hs := hs
  started _ _ _ hs := hs
  stopped _ hs := hs
  paused _ _ hs := hs
  resumed _ _ hs := hs
  restarted _ _ := h.reset
  timeTag _ _ hs := hs
  resolution _ _ hs := hs
  interval _ _ _ _ hs := hs
  channel _ _ _ _ _ _ _ _ _ _ _ _ hs := hs
  enable _ _ _ _ hs := hs
  curve _ _ _ _ _ hs := hs
  substitute _ _ _ _ _ _ hs := hs
  pass _ _ _ _ _ _ _ _ hs := hs
  binding _ _ _ _ _ _ hs := hs
  zone _ _ _ _ _ hs := hs
  hold _ _ _ hs := hs
  peaks _ _ hs := hs
  trend _ _ _ _ _ _ hs := hs
  logClear s hs := h.clear s.log hs
  taken _ _ hs := hs
  mask _ _ hs := hs
  unmask _ _ hs := hs
  level _ _ hs := hs
  permit _ _ _ _ hs := hs

theorem stepClosed : StepClosed fun s => Q s.log where
  toOwnerClosed := h.ownerClosed
  queue _ _ hs := hs
  port s p q hs := by rwa [State.setPort_log]
  frameError _ hs := hs
  maintWrite _ hs := hs
  supply _ _ _ hs := hs
  reset _ _ _ _ := h.reset

theorem step {s t : State} (hs : Q s.log) (ht : step s = .next t) : Q t.log :=
  h.stepClosed.step s t hs (fun _ => h.publish _) ht

end LogClosed

/-! ### The log's law -/

theorem LogLaw.of_empty {l : Log} (hc : l.count = 0) (hslots : ∀ n : Fin 256, l.slots[n] = none) : LogLaw l :=
  logLaw_iff.2 ⟨by omega, fun d hd => by omega, fun _ _ _ => hslots _⟩

/-- The taking of a record appends it at the newest end with the next sequence, and drops the oldest record of
a full log with its sequence (R140). -/
theorem LogLaw.take {l : Log} (h : LogLaw l) (b : RecordBody) : LogLaw (l.take b) := by
  obtain ⟨hc, hheld, hempty⟩ := logLaw_iff.1 h
  rw [logLaw_iff]
  rcases hc.lt_or_eq with hlt | hfull
  case inl =>
    obtain ⟨hcount, holdest⟩ := Log.take_of_count_lt (b := b) hlt
    rw [hcount, holdest]
    refine ⟨hlt, fun d hd => ?_, fun d hd hge => ?_⟩
    · rcases Nat.lt_succ_iff_lt_or_eq.1 hd with hd | rfl
      · rw [Log.recordAt_take_of_ne hc (by omega) (by omega) (e := d) (by omega)]
        exact hheld d hd
      · exact ⟨_, Log.recordAt_take_newest hcount.symm, rfl⟩
    · rw [Log.recordAt_take_of_ne hc hd (by omega) (e := d) (by omega)]
      exact hempty d hd (by omega)
  case inr =>
    obtain ⟨hcount, holdest⟩ := Log.take_of_full (b := b) hfull
    rw [hcount, holdest]
    refine ⟨le_rfl, fun d hd => ?_, fun d hd hge => by omega⟩
    have hnext : l.oldest + 1 + BitVec.ofNat 16 d = l.oldest + BitVec.ofNat 16 (d + 1) := by
      rw [BitVec.add_assoc, BitVec.add_comm 1, BitVec.ofNat_add]
      rfl
    rw [hnext]
    rcases Nat.lt_or_ge d 255 with hlt | hge
    · rw [Log.recordAt_take_of_ne hc hd (by omega) (e := d + 1) (by omega)]
      exact hheld (d + 1) (by omega)
    · obtain rfl : d = 255 := by omega
      exact ⟨_, Log.recordAt_take_newest hcount.symm, by rw [Log.nextSequence, hfull]⟩

theorem logClosed_logLaw : LogClosed LogLaw where
  take _ b h := h.take b
  clear l _ := .of_empty rfl (Log.clear_slots_get l)
  reset := .of_empty rfl Log.reset_slots_get

/-- Settles O53: a step changes the log by takings, clears and resets alone, and each of them keeps the law. -/
theorem stepKeepsLogLaw : Obligations.StepKeepsLogLaw := fun _ _ hs ht => logClosed_logLaw.step hs ht

end Sys2Proof.Machine
end

section
/-! PROOF. IDENTIFY, STATUS and CONDITIONS_TAKE (R159, R173): what their owners answer. -/

namespace Sys2Proof.Machine

variable {p : Port} {s t : State} {k : RequestKind} {pl : List Byte}

/-- A taken request whose owner answers DONE with data is replied with that data in the owner's state. -/
theorem exec_of_doneWith_of_state (h : s.takes p k) (hl : lengthOk k pl.length = true) {data : List Byte}
    (hd : serveKind k p pl s = doneWith data t) :
    exec (k.command p pl) s = .next (t.replied p k .done data) := by
  rw [exec_taken h hl, hd]; rfl

theorem put16_productCode : put16 4230 = [0x10, 0x86] := by decide

theorem Link.permittedKinds_length (l : Link) :
    l.permittedKinds.length = RequestKind.all.countP fun k => l.permitted k :=
  List.countP_eq_length_filter.symm

/-- IDENTIFY's owner numbers the permitted kinds and lists their codes (R173). -/
theorem serveIdentify_eq : serveIdentify p s = doneWith
    ([0x10, 0x86, Config.firmwareMajor, Config.firmwareMinor, s.link.stationAddress,
        portByte p, rateByte s.link.rate,
        BitVec.ofNat 8 (RequestKind.all.countP fun k => s.link.permitted k)]
      ++ (RequestKind.all.filter fun k => s.link.permitted k).map RequestKind.code) s := by
  rw [serveIdentify, put16_productCode, Link.permittedKinds_length, put8, Link.permittedKinds]
  rfl

/-- While the part operates, the attention line is judged by the queue and the attention level alone (R157). -/
theorem attentionLine_of_operating (h : s.operating = true) :
    s.attentionLine = s.notices.queue.any fun e => s.notices.level.val ≤ e.level := by
  rw [State.attentionLine, h, Bool.true_and]

/-- STATUS's owner counts the queue by its four levels, and answers with the attention line (R159). -/
theorem serveStatus_eq (h : s.operating = true) : serveStatus s = doneWith
    ([opStateByte s.op.state] ++ put32 s.input.scanNumber ++ put32 s.op.timeTag
      ++ [conditionByte s.notices.flags, put8 s.notices.queue.length]
      ++ (List.range 4).map (fun level => put8 (s.notices.queue.countP fun e => e.level == level))
      ++ [put8 s.notices.level.val,
          if s.notices.queue.any (fun e => s.notices.level.val ≤ e.level) then 1 else 0]) s := by
  have hrange : List.range 4 = [0, 1, 2, 3] := rfl
  simp only [serveStatus, attentionLine_of_operating h, queuedAt, putBool, hrange, List.map_cons, List.map_nil,
    List.append_assoc, List.cons_append, List.nil_append]

/-- The table of kinds stands in ascending order of the codes (R173). -/
theorem requestKinds_codes_ascend : (RequestKind.all.map fun k => k.code.toNat).Pairwise (· < ·) := by decide

/-- Settles O15: the three owners' answers, put through the taking of a request. -/
theorem identityStatusAndConditions : Obligations.IdentityStatusAndConditions := fun _ _ =>
  ⟨fun ht => exec_of_doneWith ht rfl serveIdentify_eq,
    fun ht => exec_of_doneWith ht rfl (serveStatus_eq ht.1),
    fun ht => exec_of_doneWith_of_state ht rfl rfl,
    requestKinds_codes_ascend, byDefault_isReadKind .status⟩

end Sys2Proof.Machine
end

section
/-! PROOF. The arrival of a notice (R153, R154): each case of the arrival rule, said of any entry that is offered, and the counting at a masked kind. -/

namespace Sys2Proof.Machine

variable {u : NoticeUnit} {e : QueueEntry} {tag : Word32} {n : Notice}

/-! ### The lowest level present -/

theorem lowestLevel_eq {queue : List QueueEntry} (he : e ∈ queue) (hmin : ∀ x ∈ queue, e.level ≤ x.level) :
    lowestLevel queue = e.level := by
  obtain ⟨x, hx, hlow⟩ := lowestLevel_mem (List.ne_nil_of_mem he)
  exact le_antisymm (lowestLevel_le he) (hlow ▸ hmin x hx)

/-- What is displaced is the first entry of the lowest level, wherever that stands. -/
theorem displace_eq {front back : List QueueEntry} (hmin : ∀ x ∈ front ++ e :: back, e.level ≤ x.level)
    (hfront : ∀ x ∈ front, e.level < x.level) : displace (front ++ e :: back) = front ++ back := by
  have hlow : lowestLevel (front ++ e :: back) = e.level := lowestLevel_eq (by simp) hmin
  rw [displace, hlow, List.eraseP_append_right, List.eraseP_cons_of_pos (by simp)]
  intro x hx
  simpa using (hfront x hx).ne'

/-! ### The four cases of R153 -/

theorem NoticeUnit.offer_of_queued (h : ∃ q ∈ u.queue, q.notice = e.notice) :
    u.offer e = { u with queue := u.queue.map fun q => if q.notice = e.notice then countInto e q else q } := by
  rcases u.offer_cases e with ⟨-, ho⟩ | ⟨hne, -⟩
  · simpa only [beq_iff_eq] using ho
  · obtain ⟨q, hq, heq⟩ := h
    exact absurd heq (hne q hq)

section
variable (hne : ∀ q ∈ u.queue, q.notice ≠ e.notice)
include hne

theorem NoticeUnit.offer_of_room (hroom : u.queue.length < 32) :
    u.offer e = { u with queue := u.queue ++ [e] } := by
  rcases u.offer_cases e with ⟨⟨q, hq, heq⟩, -⟩ | ⟨-, ⟨-, ho⟩ | ⟨hfull, -⟩ | ⟨hfull, -⟩⟩
  · exact absurd heq (hne q hq)
  · exact ho
  all_goals omega

theorem NoticeUnit.offer_of_full_of_le (hfull : 32 ≤ u.queue.length) (hle : lowestLevel u.queue ≤ e.level) :
    u.offer e =
      { u with queue := displace u.queue ++ [e], flags := { u.flags with noticeLost := true } } := by
  rcases u.offer_cases e with ⟨⟨q, hq, heq⟩, -⟩ | ⟨-, ⟨hroom, -⟩ | ⟨-, -, ho⟩ | ⟨-, hlt, -⟩⟩
  · exact absurd heq (hne q hq)
  · omega
  · exact ho
  · omega

theorem NoticeUnit.offer_of_full_of_lt (hfull : 32 ≤ u.queue.length) (hlt : e.level < lowestLevel u.queue) :
    u.offer e = { u with flags := { u.flags with noticeLost := true } } := by
  rcases u.offer_cases e with ⟨⟨q, hq, heq⟩, -⟩ | ⟨-, ⟨hroom, -⟩ | ⟨-, hle, -⟩ | ⟨-, -, ho⟩⟩
  · exact absurd heq (hne q hq)
  · omega
  · omega
  · exact ho

/-- Case 3, the displaced entry `x` told by its place. -/
theorem NoticeUnit.offer_displaces {front back : List QueueEntry} {x : QueueEntry}
    (hfull : 32 ≤ u.queue.length) (hq : u.queue = front ++ x :: back)
    (hmin : ∀ y ∈ u.queue, x.level ≤ y.level) (hfront : ∀ y ∈ front, x.level < y.level)
    (hle : x.level ≤ e.level) :
    u.offer e =
      { u with queue := front ++ back ++ [e], flags := { u.flags with noticeLost := true } } := by
  have hlow : lowestLevel u.queue = x.level := lowestLevel_eq (by simp [hq]) hmin
  rw [offer_of_full_of_le hne hfull (hlow.trans_le hle), hq, displace_eq (hq ▸ hmin) hfront]

/-- Case 4: every queued entry is of a higher level. -/
theorem NoticeUnit.offer_loses (hfull : 32 ≤ u.queue.length) (hlt : ∀ x ∈ u.queue, e.level < x.level) :
    u.offer e = { u with flags := { u.flags with noticeLost := true } } := by
  have hqueue : u.queue ≠ [] := List.ne_nil_of_length_pos (by omega)
  obtain ⟨x, hx, hlow⟩ := lowestLevel_mem hqueue
  exact offer_of_full_of_lt hne hfull (hlow ▸ hlt x hx)

end

/-! ### The arrival -/

theorem NoticeUnit.arrive_of_masked (h : u.kinds[noticeIndex n.kind].masked = true) :
    u.arrive tag n = { u with kinds := upd u.kinds (noticeIndex n.kind) fun k =>
      { k with pending := some (countPending tag n k.pending) } } := if_pos h

theorem NoticeUnit.arrive_of_unmasked (h : u.kinds[noticeIndex n.kind].masked = false) :
    u.arrive tag n = u.offer ⟨n, 1, false, tag⟩ := if_neg (Bool.eq_false_iff.1 h)

theorem NoticeUnit.arrive_level (u : NoticeUnit) (tag : Word32) (n : Notice) :
    (u.arrive tag n).level = u.level := by
  rcases u.arrive_cases tag n with ⟨-, h⟩ | ⟨-, h⟩
  · rw [h]
  · rw [h, offer_level]

/-- An arrival leaves the attention level. -/
theorem NoticeUnit.arrive_frame (u : NoticeUnit) (tag : Word32) (n : Notice) :
    u.arrive tag n = { u with
      queue := (u.arrive tag n).queue, kinds := (u.arrive tag n).kinds, flags := (u.arrive tag n).flags } := by
  rw [← arrive_level u tag n]

/-- Counting a notice that arrives raises the repeat count and keeps the held marker (R153, case 1). -/
theorem countInto_arrived (q : QueueEntry) :
    countInto ⟨n, 1, false, tag⟩ q = { q with repeats := min 255 (q.repeats + 1) } := by
  rw [countInto, saturate, Bool.or_false]

/-- A masked arrival counts into the pending record of its kind and changes nothing else (R154). -/
theorem arrive_masked_counts (h : u.kinds[noticeIndex n.kind].masked = true) :
    (u.arrive tag n).queue = u.queue ∧ (u.arrive tag n).flags = u.flags
    ∧ (∀ j, j ≠ noticeIndex n.kind → (u.arrive tag n).kinds[j] = u.kinds[j])
    ∧ (u.arrive tag n).kinds[noticeIndex n.kind] =
        ⟨true, some (countPending tag n u.kinds[noticeIndex n.kind].pending)⟩ := by
  rw [NoticeUnit.arrive_of_masked h]
  refine ⟨rfl, rfl, fun j hj => upd_get_ne _ _ _ _ _ (Fin.val_ne_of_ne hj), ?_⟩
  simp only [Fin.getElem_fin, upd_get_self] at h ⊢
  rw [h]

/-- Settles O49: a masked arrival counts into the pending record; an unmasked one is offered, and each case of
R153 is the lemma of the arrival rule for that case. -/
theorem noticeArrivalCases : Obligations.NoticeArrivalCases := by
  intro tag f n u t entry k lost
  have ht : t.notices = u.arrive tag n := rfl
  refine ⟨congrArg (fun v => { f with notices := v }) (u.arrive_frame tag n), fun hmasked => ?_, fun hunmasked => ?_⟩
  · obtain ⟨hqueue, hflags, hothers, hself⟩ := arrive_masked_counts (tag := tag) hmasked
    refine ⟨hqueue, hflags, hothers, fun hnone => ?_, fun r hr => ?_⟩
    · rw [ht, hself, hnone, countPending]
    · rw [ht, hself, hr, countPending, saturate]
  · rw [ht, NoticeUnit.arrive_of_unmasked hunmasked]
    refine ⟨NoticeUnit.offer_kinds u entry, fun hqueued => ?_, fun hne => ⟨fun hroom => ?_, ?_, ?_⟩⟩
    · rw [NoticeUnit.offer_of_queued hqueued]
      simp only [countInto_arrived, and_self]
    · rw [NoticeUnit.offer_of_room hne hroom]
      exact ⟨rfl, rfl⟩
    · intro front e back hfull hq hmin hfront hle
      rw [NoticeUnit.offer_displaces (e := entry) hne hfull hq hmin hfront hle]
      exact ⟨rfl, rfl⟩
    · intro hfull hlt
      rw [NoticeUnit.offer_loses (e := entry) hne hfull hlt]
      exact ⟨rfl, rfl⟩

end Sys2Proof.Machine
end

section
/-! PROOF. NOTICE_TAKE (R156): what is taken of the queue and what is left of it. -/

namespace Sys2Proof.Machine

variable {n : Nat} {queue taken rest : List QueueEntry}

/-! ### The taking of entries -/

/-- Up to `n` entries are taken one by one, each the oldest of the highest level present: `taken` in that order,
`rest` in the order of the queue. -/
inductive TakesHighest : Nat → List QueueEntry → List QueueEntry → List QueueEntry → Prop
  | enough (queue : List QueueEntry) : TakesHighest 0 queue [] queue
  | exhausted (n : Nat) : TakesHighest n [] [] []
  | next {n : Nat} {front back taken rest : List QueueEntry} {e : QueueEntry}
      (highest : ∀ x ∈ front ++ e :: back, x.level ≤ e.level) (oldest : ∀ x ∈ front, x.level < e.level)
      (more : TakesHighest n (front ++ back) taken rest) :
      TakesHighest (n + 1) (front ++ e :: back) (e :: taken) rest

theorem takesHighest_takeEntries (n : Nat) (queue : List QueueEntry) :
    TakesHighest n queue (takeEntries n queue).1 (takeEntries n queue).2 := by
  induction n generalizing queue with
  | zero => exact .enough queue
  | succ n ih =>
    rcases nextTaken_cases queue with ⟨rfl, -⟩ | ⟨front, e, back, hq, hnext, herase, hhighest, holdest⟩
    · exact .exhausted (n + 1)
    · simp only [takeEntries, hnext, herase]
      subst hq
      exact .next hhighest holdest (ih (front ++ back))

namespace TakesHighest

theorem length_taken (h : TakesHighest n queue taken rest) : taken.length = min n queue.length := by
  induction h with
  | enough queue => simp
  | exhausted n => simp
  | next _ _ _ ih =>
    simp only [List.length_append, List.length_cons] at ih ⊢
    omega

theorem perm (h : TakesHighest n queue taken rest) : (taken ++ rest).Perm queue := by
  induction h with
  | enough queue => exact .refl queue
  | exhausted n => exact .refl []
  | next _ _ _ ih => exact (ih.cons _).trans List.perm_middle.symm

theorem rest_sublist (h : TakesHighest n queue taken rest) : rest.Sublist queue := by
  induction h with
  | enough queue => exact .refl queue
  | exhausted n => exact .refl []
  | next _ _ _ ih => exact ih.trans ((List.sublist_cons_self _ _).append_left _)

/-- Of the levels of what is taken, none is below that of an entry taken later or left. -/
theorem levels_fall (h : TakesHighest n queue taken rest) :
    taken.Pairwise (fun a b => b.level ≤ a.level) ∧ ∀ a ∈ taken, ∀ b ∈ rest, b.level ≤ a.level := by
  induction h with
  | enough queue => simp
  | exhausted n => simp
  | @next n front back taken rest e highest _ more ih =>
    obtain ⟨hpairwise, hrest⟩ := ih
    have hle : ∀ x ∈ taken ++ rest, x.level ≤ e.level := fun x hx =>
      highest x (((List.sublist_cons_self e back).append_left front).subset (more.perm.subset hx))
    simp only [List.mem_append, or_imp, forall_and] at hle
    exact ⟨List.pairwise_cons.2 ⟨hle.1, hpairwise⟩, List.forall_mem_cons.2 ⟨hle.2, hrest⟩⟩

/-- Within each level, what is taken is what stands first in the queue. -/
theorem filter_level (h : TakesHighest n queue taken rest) (level : Nat) :
    queue.filter (fun e => e.level == level) =
      taken.filter (fun e => e.level == level) ++ rest.filter (fun e => e.level == level) := by
  induction h with
  | enough queue => rfl
  | exhausted n => rfl
  | @next n front back taken rest e _ oldest _ ih =>
    rw [List.filter_append] at ih ⊢
    by_cases he : e.level = level
    · have hfront : front.filter (fun e => e.level == level) = [] :=
        List.filter_eq_nil_iff.2 fun x hx => by simpa using (he ▸ oldest x hx).ne
      rw [hfront, List.nil_append] at ih ⊢
      rw [List.filter_cons_of_pos (by simpa using he), List.filter_cons_of_pos (by simpa using he), ih,
        List.cons_append]
    · rw [List.filter_cons_of_neg (by simpa using he), List.filter_cons_of_neg (by simpa using he), ih]

end TakesHighest

/-! ### The reply -/

/-- Settles O50: NOTICE_TAKE's owner answers with what is taken one by one, and the rules of R156 follow of
any such taking. -/
theorem noticeTakeReturnsHighestOldest : Obligations.NoticeTakeReturnsHighestOldest := by
  refine ⟨fun s p count ht => ?_, byDefault_isReadKind .noticeTake⟩
  have htaken := takesHighest_takeEntries (min count.toNat 4) s.notices.queue
  obtain ⟨hpairwise, hrest⟩ := htaken.levels_fall
  exact ⟨_, _, exec_of_doneWith_of_state ht rfl rfl, htaken.length_taken, htaken.perm, htaken.rest_sublist,
    hpairwise, hrest, htaken.filter_level⟩

end Sys2Proof.Machine
end

section
/-! PROOF. STOP, PAUSE and RESTART (R162): the checks they share, in their order. -/

namespace Sys2Proof.Machine

variable {s : State} {p : Port} {force : Byte} {taken : Bool}

/-! ### The LIMIT test -/

/-- The search over the published map finds a LIMIT band just where a present cell has one. -/
theorem hasLimit_iff : s.map.published.hasLimit = true ↔ LimitPublished s := by
  simp [PublishedMap.hasLimit, LimitPublished]

theorem hasLimit_eq_false : s.map.published.hasLimit = false ↔ ¬ LimitPublished s := by
  rw [← hasLimit_iff, Bool.not_eq_true]

/-! ### The checks -/

theorem stopRefusal_range (h : 1 < force.toNat) : stopRefusal taken [force] s = some .range := by
  simp only [stopRefusal, u8_zero, yesNo_none.2 h]

/-- With a marker that is one of the two, the operating state and then the LIMIT test decide. -/
theorem stopRefusal_of_le (h : force.toNat ≤ 1) :
    stopRefusal taken [force] s =
      if !taken then some .state
      else if !(force == 1) && s.map.published.hasLimit then some .condition else none := by
  simp only [stopRefusal, u8_zero, yesNo_of_le h]

theorem stopRefusal_state (h : force.toNat ≤ 1) : stopRefusal false [force] s = some .state :=
  stopRefusal_of_le h

theorem stopRefusal_condition (h : LimitPublished s) : stopRefusal true [0] s = some .condition := by
  rw [stopRefusal_of_le (by decide), hasLimit_iff.2 h]
  rfl

/-- The force marker, or a map without a LIMIT band, passes the checks. -/
theorem stopRefusal_of_passes (h : StopPasses force s) : stopRefusal true [force] s = none := by
  rcases h with rfl | ⟨rfl, hlimit⟩
  · exact stopRefusal_of_le (by decide)
  · rw [stopRefusal_of_le (by decide), hasLimit_eq_false.2 hlimit]
    rfl

/-! ### The owners -/

/-- A request of the family is answered with the refusal of its checks, if there is one, and DONE otherwise. -/
theorem serveKind_stopFamily {x : RequestKind × (OpState → Bool)} (hx : x ∈ stopFamily) (p : Port) (pl : List Byte)
    (s : State) :
    (∀ code, stopRefusal (x.2 s.op.state) pl s = some code → serveKind x.1 p pl s = answer code s)
    ∧ (stopRefusal (x.2 s.op.state) pl s = none → ∃ t, serveKind x.1 p pl s = answer .done t) := by
  have hstop : decide (s.op.state ≠ .stopped) = (s.op.state != .stopped) := by cases s.op.state <;> rfl
  have hpause : decide (s.op.state = .running) = (s.op.state == .running) := by cases s.op.state <;> rfl
  simp only [stopFamily, List.mem_cons, List.not_mem_nil, or_false] at hx
  rcases hx with rfl | rfl | rfl
  · simp +contextual [serveKind, serveStop, hstop]
  · simp +contextual [serveKind, servePause, hpause]
  · simp +contextual [serveKind, serveRestart]

/-- The force marker is the whole payload of the three (section 11.5). -/
theorem lengthOk_stopFamily {x : RequestKind × (OpState → Bool)} (hx : x ∈ stopFamily) (force : Byte) :
    lengthOk x.1 [force].length = true := by
  simp only [stopFamily, List.mem_cons, List.not_mem_nil, or_false] at hx
  rcases hx with rfl | rfl | rfl <;> rfl

/-! ### The replies -/

/-- Settles O18: the checks in their order, as the owners of the family answer them, put through the taking of a
request. -/
theorem stopChecks : Obligations.StopChecks := by
  intro p s force x hx ht
  have hlen := lengthOk_stopFamily hx force
  obtain ⟨hrefuse, hpass⟩ := serveKind_stopFamily hx p [force] s
  refine ⟨fun hmarker => ?_, fun hmarker hstate => ?_, fun hno hstate hlimit => ?_, fun hstate hpasses => ?_⟩
  · exact exec_of_range ht hlen (hrefuse _ (stopRefusal_range hmarker))
  · rw [hstate] at hrefuse
    exact exec_of_refusal ht hlen (by decide) (hrefuse _ (stopRefusal_state hmarker))
  · subst hno
    rw [hstate] at hrefuse
    exact exec_of_refusal ht hlen (by decide) (hrefuse _ (stopRefusal_condition hlimit))
  · rw [hstate] at hpass
    obtain ⟨t, hdone⟩ := hpass (stopRefusal_of_passes hpasses)
    exact ⟨t, exec_of_done ht hlen hdone⟩

end Sys2Proof.Machine
end

section
/-! PROOF. The permission of PERMIT_SET itself (R172): no step changes the permission table but PERMIT_SET and the resets, and neither permits PERMIT_SET. -/

namespace Sys2Proof.Machine

/-- PERMIT_SET is refused on the maintenance port. -/
def RefusesPermitSet (s : State) : Prop := s.link.permitted .permitSet = false

/-- A written entry is that of its kind alone. -/
theorem permits_upd_get (v : Vector Bool 37) (k j : RequestKind) (b : Bool) :
    (upd v (kindIndex k) fun _ => b)[kindIndex j] = if k = j then b else v[kindIndex j] := by
  have hinj : (kindIndex k).val = (kindIndex j).val ↔ k = j := by
    simp only [kindIndex, List.idxOf_inj (mem_requestKinds k)]
  simp only [Fin.getElem_fin, upd_get, hinj]

theorem State.publish_link (s : State) : s.publish.link = s.link := by
  unfold State.publish
  split <;> rfl

theorem refusesPermitSet_reset (straps : Straps) (powerOn : Bool) (draws : Nat) (pending : List Instr) :
    RefusesPermitSet (State.afterReset straps powerOn draws pending) :=
  defaultPermits_get .permitSet

namespace RefusesPermitSet

theorem stateFlowClosed : StateFlowClosed RefusesPermitSet where
  transit _ _ hs := hs
  draws _ _ hs := hs
  logged _ _ hs := hs
  arrived _ _ hs := hs

theorem eventClosed : EventClosed RefusesPermitSet where
  toStateFlowClosed := stateFlowClosed
  outstanding _ _ hs := hs
  asked _ _ hs := hs
  delivered s scan _ hs := by
    rw [RefusesPermitSet, State.imageArrives_link]
    exact hs
  card _ _ _ _ hs := hs
  due _ _ hs := hs
  opened _ hs := hs
  reading s c r _ hs := by rwa [RefusesPermitSet, State.giveReading_link]

theorem ownerClosed : OwnerClosed RefusesPermitSet where
  toEventClosed := eventClosed
  conditions _ hs := hs
  started _ _ _ hs := hs
  stopped _ hs := hs
  paused _ _ hs := hs
  resumed _ _ hs := hs
  restarted _ hs := hs
  timeTag _ _ hs := hs
  resolution _ _ hs := hs
  interval _ _ _ _ hs := hs
  channel _ _ _ _ _ _ _ _ _ _ _ _ hs := hs
  enable _ _ _ _ hs := hs
  curve _ _ _ _ _ hs := hs
  substitute _ _ _ _ _ _ hs := hs
  pass _ _ _ _ _ _ _ _ hs := hs
  binding _ _ _ _ _ _ hs := hs
  zone _ _ _ _ _ hs := hs
  hold _ _ _ hs := hs
  peaks _ _ hs := hs
  trend _ _ _ _ _ _ hs := hs
  logClear _ hs := hs
  taken _ _ hs := hs
  mask _ _ hs := hs
  unmask _ _ hs := hs
  level _ _ hs := hs
  permit s k b hb hs := by
    rw [RefusesPermitSet, Link.permitted, permits_upd_get]
    split
    next hk => exact hb hk
    next => exact hs

theorem stepClosed : StepClosed RefusesPermitSet where
  toOwnerClosed := ownerClosed
  queue _ _ hs := hs
  port s p q hs := by rwa [RefusesPermitSet, State.setPort_permitted]
  frameError _ hs := hs
  maintWrite _ hs := hs
  supply _ _ _ hs := hs
  reset := refusesPermitSet_reset

end RefusesPermitSet

/-- Settles O14: PERMIT_SET's owner writes no yes for PERMIT_SET itself, and nothing else but a reset writes the
table. -/
theorem permitSetStaysRefused : Obligations.PermitSetStaysRefused := fun s t hs ht =>
  RefusesPermitSet.stepClosed.step s t hs (fun _ h => by rwa [RefusesPermitSet, State.publish_link]) ht

end Sys2Proof.Machine
end

section
/-! PROOF. The law of the channels' runs (R58): the debounce, a scan's open and the resets keep it, and a step does nothing else to the health of a channel. -/

namespace Sys2Proof

variable {α : Type} {n : Nat}

/-- What holds of every row and is kept by a change holds of every row after the change of one. -/
theorem forall_upd {Q : Fin n → α → Prop} {v : Vector α n} {i : Fin n} {f : α → α} (hv : ∀ j : Fin n, Q j v[j])
    (hf : Q i v[i] → Q i (f v[i])) (j : Fin n) : Q j (upd v i f)[j] := by
  rcases eq_or_ne j i with rfl | hne
  · rw [Fin.getElem_fin, upd_get_self]
    exact hf (hv j)
  · rw [Fin.getElem_fin, upd_get_ne _ _ _ _ _ (Fin.val_ne_of_ne hne)]
    exact hv j

/-- What is said of the row `i` of a function's table is said of the function there. -/
theorem forall_tab {Q : Fin n → α → Prop} {f : Fin n → α} (hf : ∀ j, Q j (f j)) (j : Fin n) : Q j (tab f)[j] := by
  rw [Fin.getElem_fin, tab_get]
  exact hf j

end Sys2Proof

namespace Sys2Proof.Machine

variable {e : ChannelEntry}

/-! ### The moves of a channel's health -/

theorem HealthLaw.of_runs_zero (hbad : e.badRun = 0) (hgood : e.goodRun = 0) : HealthLaw e := by
  simp [HealthLaw, hbad, hgood]

/-- The debounce keeps the law: it counts a bad run in SUSPECT alone and a good run in FAILED alone. -/
theorem HealthLaw.moved (h : HealthLaw e) (good : Bool) (last : LastReading) :
    HealthLaw { e with
      health := (moveHealth good e.health e.badRun e.goodRun).health
      badRun := (moveHealth good e.health e.badRun e.goodRun).badRun
      goodRun := (moveHealth good e.health e.badRun e.goodRun).goodRun
      last := last } := by
  obtain ⟨hbad, hgood, hbad2, hgood2⟩ := h
  unfold HealthLaw moveHealth
  dsimp only
  split
  case h_1 hdisabled => exact ⟨fun h => absurd (hdisabled ▸ hbad h) (by decide),
    fun h => absurd (hdisabled ▸ hgood h) (by decide), hbad2, hgood2⟩
  case h_7 => split <;> simp; omega
  case h_8 => split <;> simp; omega
  all_goals simp

theorem HealthLaw.applyEnable (h : HealthLaw e) (number : Word32) : HealthLaw (applyEnable number e) := by
  unfold Machine.applyEnable
  split
  · split
    next hdisabled =>
      obtain ⟨hbad, hgood, -, -⟩ := h
      refine .of_runs_zero (by_contra fun hne => ?_) (by_contra fun hne => ?_)
      · exact absurd (hdisabled ▸ hbad hne) (by decide)
      · exact absurd (hdisabled ▸ hgood hne) (by decide)
    next => exact h
  · split
    · exact h
    · exact .of_runs_zero rfl rfl

/-! ### What a step does to the channels -/

/-- Every channel's runs obey the law of R58. -/
def ChannelsHealthy (s : State) : Prop := ∀ c : ChannelNo, HealthLaw s.input.channels[c]

namespace ChannelsHealthy

theorem updChannel {s : State} (hs : ChannelsHealthy s) {c : ChannelNo} {f : ChannelEntry → ChannelEntry}
    (hf : ∀ e, HealthLaw e → HealthLaw (f e)) : ChannelsHealthy (s.updChannel c f) :=
  forall_upd (Q := fun _ => HealthLaw) hs (hf _)

theorem resetRun (s : State) : ChannelsHealthy s.resetRun := by
  intro c
  rw [State.resetRun_input, Input.resetRun_channels, Fin.getElem_fin, tab_get]
  exact .of_runs_zero rfl rfl

theorem giveReading {s : State} (hs : ChannelsHealthy s) (c : ChannelNo) (r : Reading) :
    ChannelsHealthy (s.giveReading c r) := by
  rw [ChannelsHealthy, State.giveReading_input_channels]
  exact forall_upd (Q := fun _ => HealthLaw) hs fun h => h.moved _ _

theorem afterReset (straps : Straps) (powerOn : Bool) (draws : Nat) (pending : List Instr) :
    ChannelsHealthy (State.afterReset straps powerOn draws pending) :=
  forall_tab (Q := fun _ => HealthLaw) fun _ => .of_runs_zero rfl rfl

theorem publish {s : State} (hs : ChannelsHealthy s) : ChannelsHealthy s.publish := by
  unfold State.publish
  split <;> exact hs

theorem stateFlowClosed : StateFlowClosed ChannelsHealthy where
  transit _ _ hs := hs
  draws _ _ hs := hs
  logged _ _ hs := hs
  arrived _ _ hs := hs

theorem eventClosed : EventClosed ChannelsHealthy where
  toStateFlowClosed := stateFlowClosed
  outstanding _ _ hs := hs
  asked _ _ hs := hs
  delivered s scan _ hs := by
    rw [ChannelsHealthy, State.imageArrives_input]
    exact hs
  card _ _ _ _ hs := hs
  due _ _ hs := hs
  opened s hs := by
    rw [ChannelsHealthy, State.openScan_input_channels]
    exact forall_tab (Q := fun _ => HealthLaw) fun c => (hs c).applyEnable _
  reading _ c r _ hs := hs.giveReading c r

theorem ownerClosed : OwnerClosed ChannelsHealthy where
  toEventClosed := eventClosed
  conditions _ hs := hs
  started s _ _ _ := resetRun s
  stopped _ hs := hs
  paused _ _ hs := hs
  resumed _ _ hs := hs
  restarted s _ := resetRun s.abortScan.abandonMap
  timeTag _ _ hs := hs
  resolution _ _ hs := hs
  interval _ _ _ _ hs := hs
  channel _ _ _ _ _ _ _ _ _ _ _ _ hs := hs.updChannel fun _ h => h
  enable _ _ _ _ hs := hs.updChannel fun _ h => h
  curve _ _ _ _ _ hs := hs
  substitute _ _ _ _ _ _ hs := hs
  pass _ _ _ _ _ _ _ _ hs := hs
  binding _ _ _ _ _ _ hs := hs
  zone _ _ _ _ _ hs := hs
  hold _ _ _ hs := hs
  peaks _ _ hs := hs
  trend _ _ _ _ _ _ hs := hs
  logClear _ hs := hs
  taken _ _ hs := hs
  mask _ _ hs := hs
  unmask _ _ hs := hs
  level _ _ hs := hs
  permit _ _ _ _ hs := hs

theorem stepClosed : StepClosed ChannelsHealthy where
  toOwnerClosed := ownerClosed
  queue _ _ hs := hs
  port s p q hs := by rwa [ChannelsHealthy, State.setPort_input]
  frameError _ hs := hs
  maintWrite _ hs := hs
  supply _ _ _ hs := hs
  reset := afterReset

end ChannelsHealthy

/-- Settles O55: a step moves a channel's runs by the debounce, a scan's open and the resets alone, and each of
them keeps the law. -/
theorem stepKeepsHealthLaw : Obligations.StepKeepsHealthLaw := fun s t hs ht =>
  ChannelsHealthy.stepClosed.step s t hs (fun _ h => h.publish) ht

end Sys2Proof.Machine
end

section
/-! PROOF. The notice queue's law (R152, R154): arrivals, takings and the masks keep it, and a step does nothing else to the queue and the pending records. -/

namespace Sys2Proof.Machine

variable {u : NoticeUnit} {queue rest : List QueueEntry}

/-! ### The queue and the pending records apart -/

/-- The part of the law that speaks of the queue. -/
structure QueueSound (queue : List QueueEntry) : Prop where
  length : queue.length ≤ 32
  apart : queue.Pairwise (fun a b => a.notice ≠ b.notice)
  counts : ∀ e ∈ queue, 1 ≤ e.repeats ∧ e.repeats ≤ 255

/-- The part of the law that speaks of one kind's pending record. -/
def PendingSound (k : KindEntry) : Prop := ∀ r, k.pending = some r → 1 ≤ r.count ∧ r.count ≤ 255

theorem queueLaw_iff : QueueLaw u ↔ QueueSound u.queue ∧ ∀ k : Fin 16, PendingSound u.kinds[k] :=
  ⟨fun ⟨hlen, hapart, hcounts, hpending⟩ => ⟨⟨hlen, hapart, hcounts⟩, hpending⟩,
    fun ⟨⟨hlen, hapart, hcounts⟩, hpending⟩ => ⟨hlen, hapart, hcounts, hpending⟩⟩

theorem QueueSound.nil : QueueSound [] := ⟨by decide, .nil, by simp⟩

theorem QueueSound.sublist (h : QueueSound queue) (hsub : rest.Sublist queue) : QueueSound rest where
  length := hsub.length_le.trans h.length
  apart := h.apart.sublist hsub
  counts e he := h.counts e (hsub.subset he)

theorem PendingSound.of_none {k : KindEntry} (h : k.pending = none) : PendingSound k := by
  simp [PendingSound, h]

theorem PendingSound.upd {kinds : Vector KindEntry 16} (h : ∀ k : Fin 16, PendingSound kinds[k]) {i : Fin 16}
    {f : KindEntry → KindEntry} (hf : PendingSound (f kinds[i])) : ∀ k : Fin 16, PendingSound (upd kinds i f)[k] :=
  forall_upd (Q := fun _ => PendingSound) h fun _ => hf

theorem saturate_bounds {n : Nat} (h : 1 ≤ n) : 1 ≤ saturate n ∧ saturate n ≤ 255 := by
  unfold saturate
  omega

/-! ### The arrival rule (R153) -/

/-- An entry offered is counted into the one of its matter, added as another matter, added in the place of a
displaced one, or lost. -/
theorem QueueSound.offer (h : QueueSound u.queue) {e : QueueEntry} (he : 1 ≤ e.repeats ∧ e.repeats ≤ 255) :
    QueueSound (u.offer e).queue := by
  have happend : ∀ {l : List QueueEntry}, l.Sublist u.queue → l.length < 32 →
      (∀ q ∈ u.queue, q.notice ≠ e.notice) → QueueSound (l ++ [e]) := by
    intro l hsub hlen hne
    refine ⟨by rw [List.length_append]; exact hlen, ?_, ?_⟩
    · refine List.pairwise_append.2 ⟨h.apart.sublist hsub, List.pairwise_singleton _ _, fun a ha b hb => ?_⟩
      rw [List.mem_singleton.1 hb]
      exact hne a (hsub.subset ha)
    · intro q hq
      rcases List.mem_append.1 hq with hq | hq
      · exact h.counts q (hsub.subset hq)
      · rw [List.mem_singleton.1 hq]
        exact he
  rcases u.offer_cases e with ⟨-, hcounted⟩ | ⟨hne, ⟨hroom, hadded⟩ | ⟨hfull, -, hplaced⟩ | ⟨-, -, hlost⟩⟩
  · have hnotice : ∀ q : QueueEntry, (if q.notice == e.notice then countInto e q else q).notice = q.notice := by
      intro q
      split <;> rfl
    rw [hcounted]
    refine ⟨by rw [List.length_map]; exact h.length, ?_, ?_⟩
    · simpa only [List.pairwise_map, hnotice] using h.apart
    · intro x hx
      obtain ⟨q, hq, rfl⟩ := List.mem_map.1 hx
      have hcount := h.counts q hq
      split
      · exact saturate_bounds (by omega)
      · exact hcount
  · rw [hadded]
    exact happend (List.Sublist.refl _) hroom hne
  · rw [hplaced]
    obtain ⟨front, x, back, hq, hd, -, -⟩ := displace_cases (queue := u.queue) (by
      rintro hnil
      rw [hnil, List.length_nil] at hfull
      omega)
    have hlen : (front ++ x :: back).length ≤ 32 := hq ▸ h.length
    rw [hd]
    refine happend ?_ ?_ hne
    · rw [hq]
      exact List.Sublist.append (List.Sublist.refl _) (List.sublist_cons_self _ _)
    · simp only [List.length_append, List.length_cons] at hlen ⊢
      omega
  · rw [hlost]
    exact h

theorem QueueLaw.offer (h : QueueLaw u) {e : QueueEntry} (he : 1 ≤ e.repeats ∧ e.repeats ≤ 255) :
    QueueLaw (u.offer e) := by
  obtain ⟨hqueue, hpending⟩ := queueLaw_iff.1 h
  exact queueLaw_iff.2 ⟨hqueue.offer he, by rwa [NoticeUnit.offer_kinds]⟩

theorem countPending_bounds (tag : Word32) (n : Notice) (r : Option PendingRecord) :
    1 ≤ (countPending tag n r).count ∧ (countPending tag n r).count ≤ 255 := by
  cases r with
  | none => exact ⟨le_rfl, by simp [countPending]⟩
  | some r => exact saturate_bounds (by omega)

theorem QueueLaw.arrive (h : QueueLaw u) (tag : Word32) (n : Notice) : QueueLaw (u.arrive tag n) := by
  rcases u.arrive_cases tag n with ⟨-, hmasked⟩ | ⟨-, hoffered⟩
  · obtain ⟨hqueue, hpending⟩ := queueLaw_iff.1 h
    rw [hmasked]
    refine queueLaw_iff.2 ⟨hqueue, PendingSound.upd hpending fun r hr => ?_⟩
    rw [← Option.some.inj hr]
    exact countPending_bounds tag n _
  · rw [hoffered]
    exact h.offer ⟨le_rfl, (by decide : 1 ≤ 255)⟩

/-! ### The masks (R155) -/

theorem QueueLaw.mask (h : QueueLaw u) (k : NoticeKind) : QueueLaw (u.mask k) := by
  obtain ⟨hqueue, hpending⟩ := queueLaw_iff.1 h
  exact queueLaw_iff.2 ⟨hqueue, PendingSound.upd hpending (hpending _)⟩

/-- A released record is offered with the count that the law bounds. -/
theorem QueueLaw.unmask (h : QueueLaw u) (k : NoticeKind) : QueueLaw (u.unmask k) := by
  obtain ⟨hqueue, hpending⟩ := queueLaw_iff.1 h
  have hemptied : QueueLaw { u with kinds := upd u.kinds (noticeIndex k) fun _ => ⟨false, none⟩ } :=
    queueLaw_iff.2 ⟨hqueue, PendingSound.upd hpending (.of_none rfl)⟩
  unfold NoticeUnit.unmask
  dsimp only
  split
  next r _ hr => exact hemptied.offer (hpending _ r hr)
  next => exact hemptied
  next => exact h

/-! ### What a step does to the Notice Unit -/

theorem queueLaw_restarted (u : NoticeUnit) :
    QueueLaw { u with queue := [], kinds := tab fun k => { u.kinds[k] with pending := none } } :=
  queueLaw_iff.2 ⟨.nil, forall_tab (Q := fun _ => PendingSound) fun _ => .of_none rfl⟩

theorem queueLaw_reset (powerOn : Bool) : QueueLaw (NoticeUnit.reset powerOn) :=
  queueLaw_iff.2 ⟨.nil, forall_tab (Q := fun _ => PendingSound) fun _ => .of_none rfl⟩

/-- The Notice Unit of the state obeys the queue's law. -/
def NoticesSound (s : State) : Prop := QueueLaw s.notices

namespace NoticesSound

theorem stateFlowClosed : StateFlowClosed NoticesSound where
  transit _ _ hs := hs
  draws _ _ hs := hs
  logged _ _ hs := hs
  arrived s n hs := QueueLaw.arrive hs s.op.timeTag n

theorem imageArrives {s : State} (hs : NoticesSound s) (image : ScanImage) : NoticesSound (s.imageArrives image) := by
  unfold State.imageArrives
  dsimp only
  split
  · exact hs
  · exact hs
  · exact stateFlowClosed.emit _ _ hs

theorem giveReading {s : State} (hs : NoticesSound s) (c : ChannelNo) (r : Reading) :
    NoticesSound (s.giveReading c r) := by
  unfold State.giveReading
  dsimp only
  split
  · exact stateFlowClosed.emit _ _ hs
  · exact hs

theorem publish {s : State} (hs : NoticesSound s) : NoticesSound s.publish := by
  unfold State.publish
  split
  · exact hs
  · exact stateFlowClosed.send _ _ hs

theorem eventClosed : EventClosed NoticesSound where
  toStateFlowClosed := stateFlowClosed
  outstanding _ _ hs := hs
  asked _ _ hs := hs
  delivered s _ _ hs := imageArrives (s := s.setScan .waiting) hs _
  card _ _ _ _ hs := hs
  due _ _ hs := hs
  opened _ hs := hs
  reading _ c r _ hs := hs.giveReading c r

theorem ownerClosed : OwnerClosed NoticesSound where
  toEventClosed := eventClosed
  conditions _ hs := hs
  started _ _ _ hs := hs
  stopped _ hs := hs
  paused _ _ hs := hs
  resumed _ _ hs := hs
  restarted s _ := queueLaw_restarted s.notices
  timeTag _ _ hs := hs
  resolution _ _ hs := hs
  interval _ _ _ _ hs := hs
  channel _ _ _ _ _ _ _ _ _ _ _ _ hs := hs
  enable _ _ _ _ hs := hs
  curve _ _ _ _ _ hs := hs
  substitute _ _ _ _ _ _ hs := hs
  pass _ _ _ _ _ _ _ _ hs := hs
  binding _ _ _ _ _ _ hs := hs
  zone _ _ _ _ _ hs := hs
  hold _ _ _ hs := hs
  peaks _ _ hs := hs
  trend _ _ _ _ _ _ hs := hs
  logClear _ hs := hs
  taken s n hs := by
    obtain ⟨hqueue, hpending⟩ := queueLaw_iff.1 hs
    exact queueLaw_iff.2 ⟨hqueue.sublist (takesHighest_takeEntries n s.notices.queue).rest_sublist, hpending⟩
  mask _ k hs := QueueLaw.mask hs k
  unmask _ k hs := QueueLaw.unmask hs k
  level _ _ hs := hs
  permit _ _ _ _ hs := hs

theorem stepClosed : StepClosed NoticesSound where
  toOwnerClosed := ownerClosed
  queue _ _ hs := hs
  port s p q hs := by rwa [NoticesSound, State.setPort_notices]
  frameError _ hs := hs
  maintWrite _ hs := hs
  supply _ _ _ hs := hs
  reset _ powerOn _ _ := queueLaw_reset powerOn

end NoticesSound

/-- Settles O54: a step changes the queue and the pending records by arrivals, takings, the masks and the resets
alone, and each of them keeps the law. -/
theorem stepKeepsQueueLaw : Obligations.StepKeepsQueueLaw := fun s t hs ht =>
  NoticesSound.stepClosed.step s t hs (fun _ h => h.publish) ht

end Sys2Proof.Machine
end

section
/-! PROOF. The taking of a frame by a pass in each mode (R130 to R135), and the frames it leaves stored (R137). -/

namespace Sys2Proof.Machine

variable {pool : Vector (Option Frame) 256} {r : PassTrend} {f : Frame} {t : Trend} {base : Fin 256}
  {size : RingSize} {v : Bool} {w n k slot : Nat}

/-! ### The slots of the pool -/

theorem readSlot_writeSlot_self (h : slot < 256) : readSlot (writeSlot pool slot f) slot = some f := by
  simp [readSlot, writeSlot, h]

theorem readSlot_writeSlot_of_ne {m : Nat} (h : m ≠ slot) : readSlot (writeSlot pool slot f) m = readSlot pool m := by
  simp [readSlot, writeSlot, Vector.getElem?_setIfInBounds_ne h.symm]

theorem readSlot_eq_get (pool : Vector (Option Frame) 256) (n : Fin 256) : readSlot pool n.val = pool[n] := by
  simp [readSlot]

/-! ### The slots of a ring, counted back from its write position (R137) -/

/-- The place of age `k` in a ring of `n` slots with write position `w`. -/
def ringPlace (w n k : Nat) : Nat := (w + 2 * n - 1 - k) % n

theorem ringPlace_eq (hw : w < n) (hk : k < n) : ringPlace w n k = if k < w then w - 1 - k else w + n - 1 - k := by
  unfold ringPlace
  split
  · rw [show w + 2 * n - 1 - k = w - 1 - k + 2 * n by omega, Nat.add_mul_mod_self_right, Nat.mod_eq_of_lt (by omega)]
  · rw [show w + 2 * n - 1 - k = w + n - 1 - k + n by omega, Nat.add_mod_right, Nat.mod_eq_of_lt (by omega)]

theorem ringPlace_lt (hn : 0 < n) : ringPlace w n k < n := Nat.mod_lt _ hn

/-- The write position after an advance. -/
theorem advance_eq (hw : w < n) : (w + 1) % n = if w + 1 = n then 0 else w + 1 := by
  split
  next h => rw [h, Nat.mod_self]
  next => exact Nat.mod_eq_of_lt (by omega)

theorem ringPlace_advance_zero (hw : w < n) : ringPlace ((w + 1) % n) n 0 = w := by
  rw [ringPlace_eq (Nat.mod_lt _ (by omega)) (by omega), advance_eq hw]
  (repeat' split) <;> omega

theorem ringPlace_advance_succ (hw : w < n) (hk : k + 1 < n) :
    ringPlace ((w + 1) % n) n (k + 1) = ringPlace w n k := by
  rw [ringPlace_eq (Nat.mod_lt _ (by omega)) hk, ringPlace_eq hw (by omega), advance_eq hw]
  (repeat' split) <;> omega

/-- The slot at the write position is that of the last age of a full ring alone. -/
theorem ringPlace_ne (hw : w < n) (hk : k + 1 < n) : ringPlace w n k ≠ w := by
  rw [ringPlace_eq hw (by omega)]
  split <;> omega

/-! ### The frames a record shows (R137) -/

/-- The frame of age `k` that a record shows in a pool. -/
def shownFrame (pool : Vector (Option Frame) 256) (r : PassTrend) (k : Nat) : Option Frame :=
  if k < storedFrames r then (slotOfAge r k).bind (readSlot pool) else none

theorem frameOfAge_eq (t : Trend) (p : PassNo) (k : Nat) : t.frameOfAge p k = shownFrame t.pool t.passes[p] k := rfl

theorem shownFrame_of_slot (hk : k < storedFrames r) (hs : slotOfAge r k = some slot) :
    shownFrame pool r k = readSlot pool slot := by
  rw [shownFrame, if_pos hk, hs, Option.bind_some]

theorem shownFrame_of_le (hk : storedFrames r ≤ k) : shownFrame pool r k = none := if_neg (by omega)

theorem storedFrames_ring (h : r.config = .ring base size v) : storedFrames r = r.fillCount := by
  simp [storedFrames, h]

theorem slotOfAge_ring (h : r.config = .ring base size v) (k : Nat) :
    slotOfAge r k = some (base.val + ringPlace r.writePosition (ringSlots size) k) := by
  simp [slotOfAge, h, ringPlace]

theorem storedFrames_paired (h : r.config = .paired base) : storedFrames r = r.storedCount := by
  simp [storedFrames, h]

theorem slotOfAge_paired (h : r.config = .paired base) (k : Nat) :
    slotOfAge r k = some (base.val + pairOffset (otherSlot r.active)) := by
  simp [slotOfAge, h]

theorem pairOffset_lt (x : PairSlot) : pairOffset x < 2 := by cases x <;> decide

@[simp] theorem otherSlot_otherSlot (x : PairSlot) : otherSlot (otherSlot x) = x := by cases x <;> rfl

theorem otherSlot_ne (x : PairSlot) : otherSlot x ≠ x := by cases x <;> decide

theorem pairOffset_otherSlot_ne (x : PairSlot) : pairOffset (otherSlot x) ≠ pairOffset x := by cases x <;> decide

/-! ### The taking of a frame, mode by mode -/

theorem takeFrame_off (h : r.config = .off) : takeFrame pool r f = ⟨pool, r, []⟩ := by simp [takeFrame, h]

theorem takeFrame_snapshot (h : r.config = .snapshot base) :
    takeFrame pool r f = ⟨writeSlot pool base.val f, { r with storedCount := 1 }, []⟩ := by simp [takeFrame, h]

theorem takeFrame_paired_valid (h : r.config = .paired base) (hf : frameValid f = true) :
    takeFrame pool r f = ⟨writeSlot pool (base.val + pairOffset r.active) f,
      { r with active := otherSlot r.active, storedCount := 1 }, []⟩ := by simp [takeFrame, h, hf]

theorem takeFrame_paired_invalid (h : r.config = .paired base) (hf : frameValid f = false) :
    takeFrame pool r f = ⟨writeSlot pool (base.val + pairOffset r.active) f, r, []⟩ := by simp [takeFrame, h, hf]

theorem takeFrame_ring_taken (h : r.config = .ring base size v) (hf : v = false ∨ frameValid f = true) :
    takeFrame pool r f = ⟨writeSlot pool (base.val + r.writePosition) f,
      { r with
        writePosition := (r.writePosition + 1) % ringSlots size
        fillCount := if r.fillCount < ringSlots size then r.fillCount + 1 else ringSlots size },
      advanceNotices f.pass r.writePosition (ringSlots size)⟩ := by
  rcases hf with rfl | hf <;> simp [takeFrame, *]

theorem takeFrame_ring_refused (h : r.config = .ring base size v) (hv : v = true) (hf : frameValid f = false) :
    takeFrame pool r f = ⟨writeSlot pool (base.val + r.writePosition) f,
      { r with fillCount := if r.fillCount < ringSlots size then r.fillCount else ringSlots size - 1 }, []⟩ := by
  simp [takeFrame, h, hv, hf]

/-- The taking of a frame keeps the mode of the pass. -/
@[simp] theorem takeFrame_config (pool : Vector (Option Frame) 256) (r : PassTrend) (f : Frame) :
    (takeFrame pool r f).record.config = r.config := by
  unfold takeFrame
  split
  · rfl
  · rfl
  · dsimp only
    split <;> rfl
  · dsimp only
    split <;> rfl

/-- The taking of a frame writes no slot outside its pass's allocation. -/
theorem takeFrame_pool_of_outside (h : PositionLaw r) (hn : inAllocation r.config n = false) :
    readSlot (takeFrame pool r f).pool n = readSlot pool n := by
  have hout : ∀ slot, inAllocation r.config slot = true → readSlot (writeSlot pool slot f) n = readSlot pool n := by
    rintro slot hslot
    refine readSlot_writeSlot_of_ne ?_
    rintro rfl
    exact absurd hslot (by rw [hn]; decide)
  obtain ⟨-, hposition⟩ := h
  cases hc : r.config with
  | off => rw [takeFrame_off hc]
  | snapshot base =>
    rw [takeFrame_snapshot hc]
    exact hout _ (by simp [inAllocation, allocation, hc])
  | paired base =>
    have hslot : readSlot (writeSlot pool (base.val + pairOffset r.active) f) n = readSlot pool n :=
      hout _ (by simpa [inAllocation, allocation, hc] using pairOffset_lt r.active)
    cases hf : frameValid f
    · rw [takeFrame_paired_invalid hc hf]
      exact hslot
    · rw [takeFrame_paired_valid hc hf]
      exact hslot
  | ring base size v =>
    rw [hc] at hposition
    have hslot : readSlot (writeSlot pool (base.val + r.writePosition) f) n = readSlot pool n :=
      hout _ (by simpa [inAllocation, allocation, hc] using hposition.1)
    by_cases hf : v = false ∨ frameValid f = true
    · rw [takeFrame_ring_taken hc hf]
      exact hslot
    · rw [takeFrame_ring_refused hc (by simp_all) (by simp_all)]
      exact hslot

/-! ### The frames that a taking leaves stored -/

theorem shownFrame_ring_taken (h : r.config = .ring base size v) (hfit : base.val + ringSlots size ≤ 256)
    (hw : r.writePosition < ringSlots size) (hf : v = false ∨ frameValid f = true) :
    let x := takeFrame pool r f
    shownFrame x.pool x.record 0 = some f
      ∧ storedFrames x.record = (if r.fillCount < ringSlots size then r.fillCount + 1 else ringSlots size)
      ∧ ∀ k, k < r.fillCount → k + 1 < ringSlots size →
        shownFrame x.pool x.record (k + 1) = shownFrame pool r k := by
  have hpos := ringSlots_pos size
  rw [takeFrame_ring_taken h hf]
  dsimp only
  set r' : PassTrend := { r with
    writePosition := (r.writePosition + 1) % ringSlots size
    fillCount := if r.fillCount < ringSlots size then r.fillCount + 1 else ringSlots size } with hr'
  have hc : r'.config = .ring base size v := h
  have hstored : storedFrames r' = (if r.fillCount < ringSlots size then r.fillCount + 1 else ringSlots size) :=
    storedFrames_ring hc
  refine ⟨?_, hstored, fun k hk hkn => ?_⟩
  · rw [shownFrame_of_slot (by rw [hstored]; split <;> omega) (slotOfAge_ring hc 0), ringPlace_advance_zero hw]
    exact readSlot_writeSlot_self (by omega)
  · rw [shownFrame_of_slot (by rw [hstored]; split <;> omega) (slotOfAge_ring hc (k + 1)),
      ringPlace_advance_succ hw hkn, shownFrame_of_slot (by rwa [storedFrames_ring h]) (slotOfAge_ring h k)]
    refine readSlot_writeSlot_of_ne ?_
    have := ringPlace_ne hw hkn
    omega

theorem shownFrame_ring_refused (h : r.config = .ring base size v) (hw : r.writePosition < ringSlots size)
    (hv : v = true) (hf : frameValid f = false) :
    let x := takeFrame pool r f
    storedFrames x.record = (if r.fillCount < ringSlots size then r.fillCount else ringSlots size - 1)
      ∧ ∀ k, k < storedFrames x.record → shownFrame x.pool x.record k = shownFrame pool r k := by
  have hpos := ringSlots_pos size
  rw [takeFrame_ring_refused h hv hf]
  dsimp only
  set r' : PassTrend := { r with
    fillCount := if r.fillCount < ringSlots size then r.fillCount else ringSlots size - 1 } with hr'
  have hc : r'.config = .ring base size v := h
  have hstored : storedFrames r' = (if r.fillCount < ringSlots size then r.fillCount else ringSlots size - 1) :=
    storedFrames_ring hc
  refine ⟨hstored, fun k hk => ?_⟩
  have hkept : k < r.fillCount ∧ k + 1 < ringSlots size := by
    rw [hstored] at hk
    split at hk <;> omega
  rw [shownFrame_of_slot hk (slotOfAge_ring hc k),
    shownFrame_of_slot (by rw [storedFrames_ring h]; exact hkept.1) (slotOfAge_ring h k)]
  refine readSlot_writeSlot_of_ne ?_
  have := ringPlace_ne hw hkept.2
  simp only [hr']
  omega

theorem shownFrame_snapshot (h : r.config = .snapshot base) :
    shownFrame (takeFrame pool r f).pool (takeFrame pool r f).record 0 = some f := by
  rw [takeFrame_snapshot h,
    shownFrame_of_slot (by simp [storedFrames, h]) (show slotOfAge _ 0 = some base.val by simp [slotOfAge, h])]
  exact readSlot_writeSlot_self base.isLt

theorem storedFrames_snapshot_taken (h : r.config = .snapshot base) : storedFrames (takeFrame pool r f).record = 1 := by
  rw [takeFrame_snapshot h]
  simp [storedFrames, h]

theorem storedFrames_paired_valid (h : r.config = .paired base) (hf : frameValid f = true) :
    storedFrames (takeFrame pool r f).record = 1 := by
  rw [takeFrame_paired_valid h hf]
  simp [storedFrames, h]

theorem shownFrame_paired_valid (h : r.config = .paired base) (hfit : base.val + 2 ≤ 256)
    (hf : frameValid f = true) : shownFrame (takeFrame pool r f).pool (takeFrame pool r f).record 0 = some f := by
  have hslot : slotOfAge { r with active := otherSlot r.active, storedCount := 1 } 0
      = some (base.val + pairOffset r.active) := by simp [slotOfAge, h]
  rw [takeFrame_paired_valid h hf, shownFrame_of_slot (by simp [storedFrames, h]) hslot]
  have := pairOffset_lt r.active
  exact readSlot_writeSlot_self (by omega)

theorem shownFrame_paired_invalid (h : r.config = .paired base) (hf : frameValid f = false) (k : Nat) :
    shownFrame (takeFrame pool r f).pool (takeFrame pool r f).record k = shownFrame pool r k := by
  rw [takeFrame_paired_invalid h hf]
  dsimp only
  rcases Nat.lt_or_ge k (storedFrames r) with hk | hk
  · rw [shownFrame_of_slot hk (slotOfAge_paired h k), shownFrame_of_slot hk (slotOfAge_paired h k)]
    refine readSlot_writeSlot_of_ne ?_
    have := pairOffset_otherSlot_ne r.active
    omega
  · rw [shownFrame_of_le hk, shownFrame_of_le hk]

/-! ### The Trend Store's taking -/

theorem Trend.take_pool (t : Trend) (f : Frame) : (t.take f).1.pool = (takeFrame t.pool t.passes[f.pass] f).pool := rfl

@[simp] theorem Trend.take_passes_self (t : Trend) (f : Frame) :
    (t.take f).1.passes[f.pass] = (takeFrame t.pool t.passes[f.pass] f).record := by
  simp [Trend.take]

theorem Trend.take_passes_of_ne {q : PassNo} (h : q ≠ f.pass) : (t.take f).1.passes[q] = t.passes[q] := by
  rw [Trend.take, Fin.getElem_fin, upd_get_ne _ _ _ _ _ (Fin.val_ne_of_ne h), Fin.getElem_fin]

theorem ringTaking : RingTaking := by
  intro t f base size v hc hfit hposition u w notices
  obtain ⟨-, hposition⟩ := hposition
  rw [hc] at hposition
  obtain ⟨hw, hfill⟩ := hposition
  have hsize : 8 ≤ ringSlots size := by cases size <;> decide
  simp only [u, w, notices, frameOfAge_eq, Trend.take_pool, Trend.take_passes_self, storedFrames_ring hc]
  refine ⟨fun hf => ?_, fun ⟨hv, hf⟩ => ?_⟩
  · obtain ⟨hnew, hstored, holder⟩ := shownFrame_ring_taken (pool := t.pool) hc hfit hw hf
    have hnotices : (t.take f).2 = advanceNotices f.pass t.passes[f.pass].writePosition (ringSlots size) := by
      rw [Trend.take, takeFrame_ring_taken hc hf]
    refine ⟨hnew, ?_, fun k hk => ?_, fun hhalf => ?_, fun hwrap => ?_, fun hnot hnot' => ?_⟩
    · rw [hstored]
      split <;> omega
    · rw [hstored] at hk
      exact holder k (by split at hk <;> omega) (by split at hk <;> omega)
    · rw [hnotices, advanceNotices, if_pos (by omega)]
    · rw [hnotices, advanceNotices, if_neg (by omega), if_pos (by omega)]
    · rw [hnotices, advanceNotices, if_neg (by omega), if_neg (by omega)]
  · obtain ⟨hstored, hkept⟩ := shownFrame_ring_refused (pool := t.pool) hc hw hv hf
    refine ⟨?_, hkept, ?_⟩
    · rw [hstored]
      split <;> omega
    · rw [Trend.take, takeFrame_ring_refused hc hv hf]

theorem snapshotPairedAndOffTaking : SnapshotPairedAndOffTaking := by
  intro t f base u config
  simp only [u, config, frameOfAge_eq, Trend.take_pool, Trend.take_passes_self]
  refine ⟨fun hc => ?_, fun hc => ⟨shownFrame_snapshot hc, storedFrames_snapshot_taken hc, ?_⟩, fun hc hfit => ⟨?_, fun hf => ?_, fun hf => ?_⟩⟩
  · have hsame : (upd t.passes f.pass fun _ => t.passes[f.pass]) = t.passes := table_ext fun q => by
      rw [Fin.getElem_fin, upd_get]
      split
      next h => simp [h]
      next => rfl
    rw [Trend.take, takeFrame_off hc, hsame]
  · rw [Trend.take, takeFrame_snapshot hc]
  · cases hf : frameValid f
    · rw [Trend.take, takeFrame_paired_invalid hc hf]
    · rw [Trend.take, takeFrame_paired_valid hc hf]
  · refine ⟨shownFrame_paired_valid hc hfit hf, storedFrames_paired_valid hc hf, ?_⟩
    rw [takeFrame_paired_valid hc hf]
    exact otherSlot_ne _
  · exact ⟨shownFrame_paired_invalid hc hf 0, by rw [takeFrame_paired_invalid hc hf]⟩

theorem takingStaysInTheAllocation : TakingStaysInTheAllocation := by
  intro t f hposition u
  refine ⟨fun q hq => Trend.take_passes_of_ne hq, ?_, fun n hn => ?_⟩
  · rw [Trend.take_passes_self, takeFrame_config]
  · rw [← readSlot_eq_get, ← readSlot_eq_get]
    exact takeFrame_pool_of_outside hposition hn

/-- Settles O46, mode by mode from what a taking leaves stored: the slot written is that of age 0 after an advance,
and of no stored age without one. -/
theorem ringAgesMoveByOne : Obligations.RingAgesMoveByOne :=
  ⟨ringTaking, snapshotPairedAndOffTaking, takingStaysInTheAllocation⟩

end Sys2Proof.Machine
end

section
/-! PROOF. The Trend Store's laws (R126, R132): the taking of a frame, TREND_SET and the emptying of a pass keep them, and a step does nothing else to the store. -/

namespace Sys2Proof.Machine

variable {pool pool' : Vector (Option Frame) 256} {r : PassTrend} {f : Frame} {t : Trend} {p : PassNo}
  {c : TrendConfig} {n k : Nat}

/-! ### The law pass by pass -/

/-- A frame that a pass with the configuration may have stored. -/
structure FrameSound (p : PassNo) (c : TrendConfig) (f : Frame) : Prop where
  pass : f.pass = p
  length : f.entries.length ≤ 32
  valid : validOnly c = true → frameValid f = true

/-- One pass's part of the law: its positions, and the frames its record shows. -/
structure PassSound (pool : Vector (Option Frame) 256) (p : PassNo) (r : PassTrend) : Prop where
  position : PositionLaw r
  frames : ∀ k, k < storedFrames r → ∃ f, shownFrame pool r k = some f ∧ FrameSound p r.config f

theorem trendLaw_iff : TrendLaw t ↔
    (∀ p : PassNo, t.Admits p t.passes[p].config) ∧ ∀ p : PassNo, PassSound t.pool p t.passes[p] := by
  constructor
  · rintro ⟨hfits, hapart, hposition, hframes⟩
    refine ⟨fun p => ⟨hfits p, fun q n hq hp => ?_⟩, fun p => ⟨hposition p, fun k hk => ?_⟩⟩
    · exact Bool.eq_false_iff.2 fun hn => hq (hapart q p n hn hp)
    · obtain ⟨f, hf, hpass, hlen, hvalid⟩ := hframes p k hk
      exact ⟨f, hf, hpass, hlen, hvalid⟩
  · rintro ⟨hadmits, hsound⟩
    refine ⟨fun p => (hadmits p).1, fun p q n hp hq => ?_, fun p => (hsound p).position, fun p k hk => ?_⟩
    · by_contra hne
      exact absurd hq (by rw [(hadmits p).2 q n (Ne.symm hne) hp]; decide)
    · obtain ⟨f, hf, hpass, hlen, hvalid⟩ := (hsound p).frames k hk
      exact ⟨f, hf, hpass, hlen, hvalid⟩

/-- The slot of an age lies in its pass's allocation. -/
theorem slotOfAge_inAllocation (h : slotOfAge r k = some n) : inAllocation r.config n = true := by
  cases hc : r.config with
  | off => simp [slotOfAge, hc] at h
  | snapshot base =>
    obtain rfl : base.val = n := by simpa [slotOfAge, hc] using h
    simp [inAllocation, allocation]
  | paired base =>
    obtain rfl := Option.some.inj ((slotOfAge_paired hc k).symm.trans h)
    simpa [inAllocation, allocation] using pairOffset_lt _
  | ring base size v =>
    obtain rfl := Option.some.inj ((slotOfAge_ring hc k).symm.trans h)
    simpa [inAllocation, allocation] using ringPlace_lt (ringSlots_pos size)

/-- The frames a record shows are those of its allocation. -/
theorem shownFrame_congr (h : ∀ n, inAllocation r.config n = true → readSlot pool n = readSlot pool' n) (k : Nat) :
    shownFrame pool r k = shownFrame pool' r k := by
  unfold shownFrame
  split
  · cases hs : slotOfAge r k with
    | none => rfl
    | some n => exact h n (slotOfAge_inAllocation hs)
  · rfl

theorem PassSound.congr (hp : PassSound pool p r)
    (h : ∀ n, inAllocation r.config n = true → readSlot pool' n = readSlot pool n) : PassSound pool' p r where
  position := hp.position
  frames k hk := by
    rw [shownFrame_congr h]
    exact hp.frames k hk

theorem passSound_emptied (pool : Vector (Option Frame) 256) (p : PassNo) (c : TrendConfig) :
    PassSound pool p (PassTrend.emptied c) where
  position := by
    refine ⟨Nat.zero_le _, ?_⟩
    cases c with
    | ring _ size => exact ⟨ringSlots_pos size, Nat.zero_le _⟩
    | _ => trivial
  frames k hk := by cases c <;> exact absurd hk (Nat.not_lt_zero k)

/-- The taking of a frame keeps its pass's part of the law: what it stores is the frame taken, or a frame stored
before it. -/
theorem PassSound.taken (h : PassSound pool p r) (hfits : ∀ n, inAllocation r.config n = true → n < 256)
    (hpass : f.pass = p) (hlen : f.entries.length ≤ 32) :
    PassSound (takeFrame pool r f).pool p (takeFrame pool r f).record := by
  have hnew : (validOnly r.config = true → frameValid f = true) → FrameSound p r.config f :=
    fun hvalid => ⟨hpass, hlen, hvalid⟩
  obtain ⟨⟨hstored, hposition⟩, hframes⟩ := h
  cases hc : r.config with
  | off =>
    rw [takeFrame_off hc]
    exact ⟨⟨hstored, hposition⟩, hframes⟩
  | snapshot base =>
    refine ⟨⟨?_, ?_⟩, fun k hk => ?_⟩
    · rw [takeFrame_snapshot hc]
    · rw [takeFrame_config, hc]
      trivial
    · rw [storedFrames_snapshot_taken hc] at hk
      obtain rfl : k = 0 := by omega
      exact ⟨f, shownFrame_snapshot hc, by rw [takeFrame_config]; exact hnew (by rw [hc]; simp [validOnly])⟩
  | paired base =>
    cases hf : frameValid f with
    | false =>
      refine ⟨?_, fun k hk => ?_⟩
      · rw [takeFrame_paired_invalid hc hf]
        exact ⟨hstored, hposition⟩
      · rw [shownFrame_paired_invalid hc hf]
        rw [takeFrame_paired_invalid hc hf] at hk ⊢
        exact hframes k hk
    | true =>
      have hfit := hfits (base.val + 1) (by simp [inAllocation, allocation, hc])
      refine ⟨⟨?_, ?_⟩, fun k hk => ?_⟩
      · rw [takeFrame_paired_valid hc hf]
      · rw [takeFrame_config, hc]
        trivial
      · rw [storedFrames_paired_valid hc hf] at hk
        obtain rfl : k = 0 := by omega
        exact ⟨f, shownFrame_paired_valid hc (by omega) hf, by rw [takeFrame_config]; exact hnew fun _ => hf⟩
  | ring base size v =>
    rw [hc] at hposition
    obtain ⟨hw, hfill⟩ := hposition
    have hpos := ringSlots_pos size
    have hfit := hfits (base.val + ringSlots size - 1) (by
      simp only [inAllocation, allocation, hc, Bool.and_eq_true, decide_eq_true_eq]
      omega)
    rw [storedFrames_ring hc] at hframes
    by_cases htaken : v = false ∨ frameValid f = true
    · obtain ⟨hzero, hcount, holder⟩ := shownFrame_ring_taken (pool := pool) hc (by omega) hw htaken
      refine ⟨⟨?_, ?_⟩, fun k hk => ?_⟩
      · rw [takeFrame_ring_taken hc htaken]
        exact hstored
      · rw [takeFrame_config, hc, takeFrame_ring_taken hc htaken]
        refine ⟨Nat.mod_lt _ hpos, ?_⟩
        dsimp only
        split <;> omega
      · rw [hcount] at hk
        rw [takeFrame_config]
        cases k with
        | zero => exact ⟨f, hzero, hnew fun hv => by
            rw [hc] at hv
            exact htaken.resolve_left (by rw [show v = true from hv]; decide)⟩
        | succ k =>
          rw [holder k (by split at hk <;> omega) (by split at hk <;> omega)]
          exact hframes k (by split at hk <;> omega)
    · obtain ⟨hv, hf⟩ : v = true ∧ frameValid f = false := by simpa using htaken
      obtain ⟨hcount, hkept⟩ := shownFrame_ring_refused (pool := pool) hc hw hv hf
      refine ⟨⟨?_, ?_⟩, fun k hk => ?_⟩
      · rw [takeFrame_ring_refused hc hv hf]
        exact hstored
      · rw [takeFrame_config, hc, takeFrame_ring_refused hc hv hf]
        refine ⟨hw, ?_⟩
        dsimp only
        split <;> omega
      · rw [hkept k hk, takeFrame_config]
        rw [hcount] at hk
        exact hframes k (by split at hk <;> omega)

/-! ### The updates of the store -/

/-- A pass's record replaced by a sound one whose allocation the store admits, the slots of the other passes
left: the law is kept. -/
theorem TrendLaw.replace (h : TrendLaw t) (hadmits : t.Admits p r.config) (hsound : PassSound pool p r)
    (hothers : ∀ q : PassNo, q ≠ p → ∀ n, inAllocation t.passes[q].config n = true →
      readSlot pool n = readSlot t.pool n) :
    TrendLaw ⟨pool, upd t.passes p fun _ => r⟩ := by
  obtain ⟨hadmitted, hsounds⟩ := trendLaw_iff.1 h
  have hself : (upd t.passes p fun _ => r)[p] = r := upd_get_self _ _ _
  have hother : ∀ q : PassNo, q ≠ p → (upd t.passes p fun _ => r)[q] = t.passes[q] := fun q hq =>
    upd_get_ne _ _ _ _ _ (Fin.val_ne_of_ne hq)
  refine trendLaw_iff.2 ⟨fun q => ?_, fun q => ?_⟩
  · rcases eq_or_ne q p with rfl | hq
    · refine ⟨?_, fun q' n hne hn => ?_⟩ <;> dsimp only at *
      · rw [hself]
        exact hadmits.1
      · rw [hself] at hn
        rw [hother q' hne]
        exact hadmits.2 q' n hne hn
    · refine ⟨?_, fun q' n hne hn => ?_⟩ <;> dsimp only at *
      · rw [hother q hq]
        exact (hadmitted q).1
      · rw [hother q hq] at hn
        rcases eq_or_ne q' p with rfl | hq'
        · rw [hself]
          exact Bool.eq_false_iff.2 fun hnew => absurd hn (by rw [hadmits.2 q n hq hnew]; decide)
        · rw [hother q' hq']
          exact (hadmitted q).2 q' n hne hn
  · rcases eq_or_ne q p with rfl | hq
    · show PassSound pool q (upd t.passes q fun _ => r)[q]
      rw [hself]
      exact hsound
    · show PassSound pool q (upd t.passes p fun _ => r)[q]
      rw [hother q hq]
      exact (hsounds q).congr (hothers q hq)

theorem readSlot_emptySlots_of_outside (h : inAllocation c n = false) :
    readSlot (emptySlots c pool) n = readSlot pool n := by
  unfold readSlot
  rcases Nat.lt_or_ge n 256 with hn | hn
  · rw [Vector.getElem?_eq_getElem hn, Vector.getElem?_eq_getElem hn, emptySlots, tab_get]
    simp [h]
  · rw [Vector.getElem?_eq_none hn, Vector.getElem?_eq_none hn]

theorem TrendLaw.take (h : TrendLaw t) (hlen : f.entries.length ≤ 32) : TrendLaw (t.take f).1 := by
  obtain ⟨hadmitted, hsounds⟩ := trendLaw_iff.1 h
  have hadmits := hadmitted f.pass
  refine h.replace (r := (takeFrame t.pool t.passes[f.pass] f).record) (by rwa [takeFrame_config])
    ((hsounds f.pass).taken hadmits.1 rfl hlen) fun q hq n hn => ?_
  refine takeFrame_pool_of_outside (hsounds f.pass).position (Bool.eq_false_iff.2 fun hin => ?_)
  exact absurd hn (by rw [hadmits.2 q n hq hin]; decide)

theorem TrendLaw.configure (h : TrendLaw t) (hadmits : t.Admits p c) : TrendLaw (t.configure p c) := by
  obtain ⟨hadmitted, -⟩ := trendLaw_iff.1 h
  refine h.replace (r := PassTrend.emptied c) hadmits (passSound_emptied _ _ _) fun q hq n hn => ?_
  have hout : ∀ c', t.Admits p c' → inAllocation c' n = false := fun c' hc' =>
    Bool.eq_false_iff.2 fun hin => absurd hn (by rw [hc'.2 q n hq hin]; decide)
  rw [readSlot_emptySlots_of_outside (hout c hadmits), readSlot_emptySlots_of_outside (hout _ (hadmitted p))]

theorem TrendLaw.emptyPass (h : TrendLaw t) (p : PassNo) : TrendLaw (t.emptyPass p) := by
  obtain ⟨hadmitted, -⟩ := trendLaw_iff.1 h
  have hemptied : (upd t.passes p fun r => PassTrend.emptied r.config)
      = upd t.passes p fun _ => PassTrend.emptied t.passes[p].config := table_ext fun q => by
    simp only [Fin.getElem_fin, upd_get]
    split
    next he => simp [he]
    next => rfl
  rw [Trend.emptyPass, hemptied]
  refine h.replace (r := PassTrend.emptied t.passes[p].config) (hadmitted p) (passSound_emptied _ _ _) fun q hq n hn => ?_
  exact readSlot_emptySlots_of_outside
    (Bool.eq_false_iff.2 fun hin => absurd hn (by rw [(hadmitted p).2 q n hq hin]; decide))

theorem TrendLaw.emptyAll (h : TrendLaw t) : TrendLaw t.emptyAll :=
  (((h.emptyPass 0).emptyPass 1).emptyPass 2).emptyPass 3

theorem trendLaw_reset : TrendLaw Trend.reset := by
  have hempty : ∀ p : PassNo, Trend.reset.passes[p] = PassTrend.emptied .off := fun p => fill_get _ _ _
  refine trendLaw_iff.2 ⟨fun p => ?_, fun p => ?_⟩
  · rw [hempty]
    exact ⟨fun _ hn => (nomatch hn), fun _ _ _ hn => (nomatch hn)⟩
  · rw [hempty]
    exact passSound_emptied _ _ _

/-- A publication's frames have an entry for each present station, at most 32. -/
theorem length_of_mem_publicationFrames {m : MapEngine} {comp : Computation} (h : f ∈ publicationFrames m comp) :
    f.entries.length ≤ 32 := by
  obtain ⟨p, -, rfl⟩ := List.mem_map.1 h
  calc (frameOf m comp p).entries.length ≤ (cellsOfPass p).length := by
        rw [frameOf, List.length_map]
        exact List.length_filter_le _ _
    _ = 32 := by simp [cellsOfPass]

/-! ### What a step does to the Trend Store -/

/-- The Trend Store of the state obeys its laws. -/
def TrendSound (s : State) : Prop := TrendLaw s.trend

namespace TrendSound

theorem publish {s : State} (hs : TrendSound s) : TrendSound s.publish := by
  unfold State.publish
  split
  · exact hs
  · exact Trend.takeAll_keeps (Q := fun f => f.entries.length ≤ 32) (fun _ _ hf ht => ht.take hf) _ _
      (fun _ hf => length_of_mem_publicationFrames hf) hs

theorem stateFlowClosed : StateFlowClosed TrendSound where
  transit _ _ hs := hs
  draws _ _ hs := hs
  logged _ _ hs := hs
  arrived _ _ hs := hs

theorem eventClosed : EventClosed TrendSound where
  toStateFlowClosed := stateFlowClosed
  outstanding _ _ hs := hs
  asked _ _ hs := hs
  delivered s _ _ hs := by
    rw [TrendSound, State.imageArrives_trend]
    exact hs
  card _ _ _ _ hs := hs
  due _ _ hs := hs
  opened _ hs := hs
  reading s c r _ hs := by rwa [TrendSound, State.giveReading_trend]

theorem ownerClosed : OwnerClosed TrendSound where
  toEventClosed := eventClosed
  conditions _ hs := hs
  started _ _ _ hs := TrendLaw.emptyAll hs
  stopped _ hs := hs
  paused _ _ hs := hs
  resumed _ _ hs := hs
  restarted _ hs := TrendLaw.emptyAll hs
  timeTag _ _ hs := hs
  resolution _ _ hs := hs
  interval _ _ _ _ hs := hs
  channel _ _ _ _ _ _ _ _ _ _ _ _ hs := hs
  enable _ _ _ _ hs := hs
  curve _ _ _ _ _ hs := hs
  substitute _ _ _ _ _ _ hs := hs
  pass _ _ _ _ _ _ _ _ hs := hs
  binding _ _ _ _ _ _ hs := hs
  zone _ _ _ _ _ hs := hs
  hold _ _ _ hs := hs
  peaks _ _ hs := hs
  trend _ _ _ _ hfits hconflict hs :=
    TrendLaw.configure hs ⟨fitsPool_iff.1 hfits, trendConflict_eq_false_iff.1 hconflict⟩
  logClear _ hs := hs
  taken _ _ hs := hs
  mask _ _ hs := hs
  unmask _ _ hs := hs
  level _ _ hs := hs
  permit _ _ _ _ hs := hs

theorem stepClosed : StepClosed TrendSound where
  toOwnerClosed := ownerClosed
  queue _ _ hs := hs
  port s p q hs := by rwa [TrendSound, State.setPort_trend]
  frameError _ hs := hs
  maintWrite _ hs := hs
  supply _ _ _ hs := hs
  reset _ _ _ _ := trendLaw_reset

end TrendSound

/-- Settles O56: a step changes the Trend Store by takings, TREND_SET, the emptying of the passes and the resets
alone, and each of them keeps the laws. -/
theorem stepKeepsTrendLaw : Obligations.StepKeepsTrendLaw := fun s t hs ht =>
  TrendSound.stepClosed.step s t hs (fun _ h => h.publish) ht

end Sys2Proof.Machine
end

section
/-! PROOF. The configuration's law (R3, R6, R24, R25, R39, R42, R67, R102): each request that writes a part of it checks that part, the latch and its abandonment move zone records that were checked, and a step does nothing else to it. -/

namespace Sys2Proof.Machine

/-! ### The channels (R24, R25) -/

/-- Two entries of one configuration: they differ in health, runs and last reading at most. -/
def SameConfig (e e' : ChannelEntry) : Prop :=
  ∃ health bad good last, e' = { e with health := health, badRun := bad, goodRun := good, last := last }

theorem SameConfig.refl (e : ChannelEntry) : SameConfig e e := ⟨_, _, _, _, rfl⟩

theorem sameConfig_applyEnable (number : Word32) (e : ChannelEntry) : SameConfig e (applyEnable number e) := by
  unfold applyEnable
  (repeat' split) <;> exact ⟨_, _, _, _, rfl⟩

theorem sameConfig_resetRun (e : ChannelEntry) : SameConfig e e.resetRun := ⟨_, _, _, _, rfl⟩

theorem sameConfig_giveReading (s : State) (c : ChannelNo) (r : Reading) (d : ChannelNo) :
    SameConfig s.input.channels[d] (s.giveReading c r).input.channels[d] := by
  rw [State.giveReading_input_channels]
  simp only [Fin.getElem_fin, upd_get]
  split
  next h => exact ⟨_, _, _, _, rfl⟩
  next => exact .refl _

/-- The channels' part of the law: no two enabled channels on one card and input, trims and clamps in range. -/
structure ChannelSettings (v : Vector ChannelEntry 96) : Prop where
  routing : ∀ c d : ChannelNo, v[c].enabled = true → v[d].enabled = true → v[c].card = v[d].card →
    v[c].input = v[d].input → c = d
  trims : ∀ c : ChannelNo, TrimLaw v[c]

namespace ChannelSettings

variable {v v' : Vector ChannelEntry 96}

theorem congr (h : ChannelSettings v) (hv : ∀ c : ChannelNo, SameConfig v[c] v'[c]) : ChannelSettings v' where
  routing c d := by
    obtain ⟨_, _, _, _, hc⟩ := hv c
    obtain ⟨_, _, _, _, hd⟩ := hv d
    rw [hc, hd]
    exact h.routing c d
  trims c := by
    obtain ⟨_, _, _, _, hc⟩ := hv c
    rw [hc]
    exact h.trims c

/-- One entry changed, within its ranges and, if it is enabled, to a routing that no other enabled channel has. -/
theorem changed (h : ChannelSettings v) (c : ChannelNo) {f : ChannelEntry → ChannelEntry} (htrim : TrimLaw (f v[c]))
    (hroute : (f v[c]).enabled = true → ∀ d : ChannelNo, d ≠ c → v[d].enabled = true →
      v[d].card = (f v[c]).card → v[d].input ≠ (f v[c]).input) : ChannelSettings (upd v c f) := by
  have hself : (upd v c f)[c] = f v[c] := upd_get_self _ _ _
  have hother : ∀ d : ChannelNo, d ≠ c → (upd v c f)[d] = v[d] := fun d hd =>
    upd_get_ne _ _ _ _ _ (Fin.val_ne_of_ne hd)
  refine ⟨fun a b ha hb hcard hinput => ?_, forall_upd (Q := fun _ => TrimLaw) h.trims fun _ => htrim⟩
  by_cases hac : a = c <;> by_cases hbc : b = c
  · rw [hac, hbc]
  · rw [hac, hself] at ha hcard hinput
    rw [hother b hbc] at hb hcard hinput
    exact absurd hinput.symm (hroute ha b hbc hb hcard.symm)
  · rw [hbc, hself] at hb hcard hinput
    rw [hother a hac] at ha hcard hinput
    exact absurd hinput (hroute hb a hac ha hcard)
  · rw [hother a hac] at ha hcard hinput
    rw [hother b hbc] at hb hcard hinput
    exact h.routing a b ha hb hcard hinput

end ChannelSettings

/-- Where no other enabled channel has the routing, the search finds no conflict. -/
theorem no_conflict {v : Vector ChannelEntry 96} {c : ChannelNo} {card : CardNo} {input : Fin 16}
    (h : routingConflict v c card input = false) (d : ChannelNo) (hd : d ≠ c) (he : v[d].enabled = true)
    (hcard : v[d].card = card) : v[d].input ≠ input := by
  intro hinput
  simp only [routingConflict, List.any_eq_false, List.mem_finRange, true_imp_iff, Bool.and_eq_true, bne_iff_ne,
    beq_iff_eq] at h
  exact h d ⟨⟨⟨hd, he⟩, hcard⟩, hinput⟩

/-! ### The Input Processor -/

/-- The Input Processor's part of the law. -/
structure InputSettings (x : Input) : Prop where
  channels : ChannelSettings x.channels
  curves : ∀ n : Fin 4, CurveLaw x.curves[n]
  interval : 5 ≤ x.interval ∧ x.interval ≤ 600
  substitutes : ∀ k : CardNo, -400 ≤ x.cards[k].substitute ∧ x.cards[k].substitute ≤ 1250

namespace InputSettings

variable {x : Input}

theorem setChannels (h : InputSettings x) {v : Vector ChannelEntry 96} (hv : ChannelSettings v) :
    InputSettings { x with channels := v } := ⟨hv, h.curves, h.interval, h.substitutes⟩

theorem updCard (h : InputSettings x) {k : CardNo} {f : CardEntry → CardEntry}
    (hf : -400 ≤ (f x.cards[k]).substitute ∧ (f x.cards[k]).substitute ≤ 1250) :
    InputSettings { x with cards := upd x.cards k f } :=
  ⟨h.channels, h.curves, h.interval,
    forall_upd (Q := fun _ (e : CardEntry) => -400 ≤ e.substitute ∧ e.substitute ≤ 1250) h.substitutes fun _ => hf⟩

theorem resetRun (h : InputSettings x) : InputSettings x.resetRun where
  channels := h.channels.congr (by
    rw [Input.resetRun_channels]
    exact forall_tab (Q := fun c => SameConfig x.channels[c]) fun _ => sameConfig_resetRun _)
  curves := h.curves
  interval := h.interval
  substitutes := by
    rw [Input.resetRun_cards]
    exact forall_tab (Q := fun _ (e : CardEntry) => -400 ≤ e.substitute ∧ e.substitute ≤ 1250) h.substitutes

theorem openScan {s : State} (h : InputSettings s.input) : InputSettings s.openScan.input where
  channels := h.channels.congr (by
    rw [State.openScan_input_channels]
    exact forall_tab (Q := fun c => SameConfig s.input.channels[c]) fun _ => sameConfig_applyEnable _ _)
  curves := h.curves
  interval := h.interval
  substitutes := by
    rw [State.openScan_input_cards]
    exact forall_tab (Q := fun _ (e : CardEntry) => -400 ≤ e.substitute ∧ e.substitute ≤ 1250) h.substitutes

theorem giveReading {s : State} (h : InputSettings s.input) (c : ChannelNo) (r : Reading) :
    InputSettings (s.giveReading c r).input where
  channels := h.channels.congr (sameConfig_giveReading s c r)
  curves := by rw [State.giveReading_input_curves]; exact h.curves
  interval := by rw [State.giveReading_input_interval]; exact h.interval
  substitutes := by rw [State.giveReading_input_cards]; exact h.substitutes

theorem reset : InputSettings Input.reset where
  channels := by
    have hget : ∀ c : ChannelNo, (tab ChannelEntry.default)[c] = ChannelEntry.default c := fun c => tab_get _ _ _
    refine ⟨fun c d hc => ?_, fun c => ?_⟩
    · exact absurd hc (by rw [show Input.reset.channels[c] = ChannelEntry.default c from hget c]; exact Bool.false_ne_true)
    · rw [show Input.reset.channels[c] = ChannelEntry.default c from hget c]
      simp [TrimLaw, ChannelEntry.default]
  curves _ := .inl (fill_get _ _ _)
  interval := by decide
  substitutes k := by
    rw [show Input.reset.cards[k] = CardEntry.default from fill_get _ _ _]
    decide

end InputSettings

/-! ### The Map Engine -/

/-- The values of a pass table entry (R3). -/
def PassLaw (e : PassEntry) : Prop :=
  1 ≤ e.stations ∧ e.stations ≤ 32 ∧ ∀ v, e.spreadLimit = some v → 1 ≤ v ∧ v ≤ 5000

/-- The values of a binding (R6). -/
def BindingLaw (b : Binding) : Prop := b.secondary.isSome = true → b.primary.isSome = true ∧ b.secondary ≠ b.primary

/-- The definition of a pending zone edit is lawful. -/
def EditLaw (z : ZoneNo) (x : Option (Entry ZoneRecord)) : Prop := ∀ e, x = some e → ZoneLaw z e.value

/-- The Map Engine's part of the law. -/
structure MapSettings (m : MapEngine) : Prop where
  passes : ∀ p : PassNo, PassLaw m.passes[p]
  bindings : ∀ i : CellIndex, BindingLaw m.bindings[i]
  zones : ∀ z : ZoneNo, ZoneLaw z m.zones[z]
  edits : ∀ z : ZoneNo, EditLaw z m.latch.zoneEdits[z]
  savedZones : ∀ c, m.computing = some c → ∀ z : ZoneNo, ZoneLaw z c.savedZones[z]

/-- A payload read as a definition is lawful (R104). -/
theorem zoneLaw_of_payloadZone {z : ZoneNo} {pl : List Byte} {r : ZoneRecord} (h : payloadZone z pl = some r) :
    ZoneLaw z r := by
  obtain ⟨hextent, hok, -⟩ := payloadZone_eq_some_iff.1 h
  refine zoneLaw_iff.2 ⟨?_, hok⟩
  unfold payloadExtent at hextent
  split at hextent
  next hz =>
    simp only [Option.some.injEq, Prod.mk.injEq] at hextent
    obtain ⟨henabled, hpasses, hfirst, hlast⟩ := hextent
    rw [← henabled, ← hpasses, ← hfirst, ← hlast]
    exact ⟨by decide, fun _ => ⟨rfl, rfl, rfl, rfl⟩⟩
  next hz =>
    split at hextent
    · split at hextent
      next hle =>
        simp only [Option.some.injEq, Prod.mk.injEq] at hextent
        obtain ⟨-, -, hfirst, hlast⟩ := hextent
        rw [← hfirst, ← hlast]
        exact ⟨hle, fun h => absurd h hz⟩
      next => cases hextent
    · cases hextent

/-- A payload read as a binding is lawful (R7). -/
theorem bindingLaw_of_payloadBinding {pl : List Byte} {b : Binding} (h : payloadBinding pl = some b) :
    BindingLaw b := by
  unfold payloadBinding at h
  split at h
  · split at h
    · cases h
    next hok =>
      cases h
      intro hsecondary
      simp only [hsecondary, Bool.true_and, Bool.or_eq_true, Option.isNone_iff_eq_none, beq_iff_eq, not_or] at hok
      exact ⟨Option.isSome_iff_ne_none.2 hok.1, hok.2⟩
  · cases h

theorem EditLaw.map {z : ZoneNo} {x : Option (Entry ZoneRecord)} (h : EditLaw z x) (taken : Bool) :
    EditLaw z (x.map fun e => { e with taken := taken }) := by
  intro e he
  obtain ⟨e', he', rfl⟩ := Option.map_eq_some_iff.1 he
  exact h e' he'

theorem EditLaw.removeTaken {z : ZoneNo} {x : Option (Entry ZoneRecord)} (h : EditLaw z x) :
    EditLaw z (removeTaken x) :=
  fun e he => h e (Option.filter_eq_some_iff.1 he).1

theorem zoneLaw_of_fresh {z : ZoneNo} {x : Option (Entry ZoneRecord)} {r : ZoneRecord} (h : EditLaw z x)
    (hr : ZoneLaw z r) : ZoneLaw z ((fresh x).getD r) := by
  unfold fresh
  split
  next e =>
    split
    · exact hr
    · exact h e rfl
  next => exact hr

namespace MapSettings

variable {m : MapEngine}

theorem startComputation (h : MapSettings m) (image : MarkedImage) : MapSettings (m.startComputation image) where
  passes := forall_tab (Q := fun _ => PassLaw) h.passes
  bindings := h.bindings
  zones := forall_tab (Q := ZoneLaw) fun z => zoneLaw_of_fresh (h.edits z) (h.zones z)
  edits := forall_tab (Q := EditLaw) fun z => (h.edits z).map true
  savedZones c hc z := by
    obtain rfl := Option.some.inj hc
    exact h.zones z

theorem takeWaiting (h : MapSettings m) : MapSettings m.takeWaiting := by
  unfold MapEngine.takeWaiting
  split
  · exact h
  · exact startComputation (m := { m with waiting := none })
      ⟨h.passes, h.bindings, h.zones, h.edits, h.savedZones⟩ _

theorem completed (h : MapSettings m) (c : Computation) : MapSettings (m.completed c) where
  passes := forall_tab (Q := fun _ => PassLaw) fun p => by
    obtain ⟨_, _, he⟩ := spreadCheck_frame m.zones[(0 : ZoneNo)].persistence (spreadOf m c p) m.passes[p]
    rw [he]
    exact h.passes p
  bindings := h.bindings
  zones := h.zones
  edits := forall_tab (Q := EditLaw) fun z => (h.edits z).removeTaken
  savedZones _ hc := nomatch hc

theorem abandon (h : MapSettings m) : MapSettings m.abandon := by
  unfold MapEngine.abandon
  split
  · exact ⟨h.passes, h.bindings, h.zones, h.edits, h.savedZones⟩
  next c hc =>
    exact {
      passes := forall_tab (Q := fun _ => PassLaw) h.passes
      bindings := h.bindings
      zones := h.savedZones c hc
      edits := forall_tab (Q := EditLaw) fun z => (h.edits z).map false
      savedZones := fun _ hc => nomatch hc }

theorem resetRun (h : MapSettings m) : MapSettings m.resetRun where
  passes := by
    rw [MapEngine.resetRun_passes]
    exact forall_tab (Q := fun _ => PassLaw) h.passes
  bindings := h.bindings
  zones := h.zones
  edits := h.edits
  savedZones _ hc := nomatch hc

theorem setPass (h : MapSettings m) (p : PassNo) {n : Nat} {limit : Option Int} (hn : 1 ≤ n ∧ n ≤ 32)
    (hlimit : ∀ x, limit = some x → 1 ≤ x ∧ x ≤ 5000) : MapSettings (m.setPass p n limit) where
  passes := forall_upd (Q := fun _ => PassLaw) h.passes fun _ => ⟨hn.1, hn.2, hlimit⟩
  bindings := forall_tab (Q := fun _ => BindingLaw) fun i => by
    dsimp only
    split
    · exact h.bindings i
    · exact fun h => nomatch h
  zones := h.zones
  edits := h.edits
  savedZones := h.savedZones

theorem imageArrives {s : State} (h : MapSettings s.map) (image : ScanImage) :
    MapSettings (s.imageArrives image).map := by
  unfold State.imageArrives
  dsimp only
  split
  · exact startComputation (m := { s.map with resumeMarker := false })
      ⟨h.passes, h.bindings, h.zones, h.edits, h.savedZones⟩ _
  · exact ⟨h.passes, h.bindings, h.zones, h.edits, h.savedZones⟩
  · rw [State.emit_map]
    exact ⟨h.passes, h.bindings, h.zones, h.edits, h.savedZones⟩

theorem reset : MapSettings MapEngine.reset where
  passes _ := by
    rw [show ∀ p : PassNo, MapEngine.reset.passes[p] = PassEntry.default from fun p => fill_get _ _ _]
    exact ⟨by decide, by decide, fun _ hv => nomatch hv⟩
  bindings _ := by
    rw [show ∀ i : CellIndex, MapEngine.reset.bindings[i] = Binding.default from fun i => fill_get _ _ _]
    exact fun h => nomatch h
  zones := forall_tab (Q := ZoneLaw) fun z => by
    refine zoneLaw_iff.2 ⟨⟨by simp [ZoneRecord.default], ?_⟩, by revert z; decide⟩
    rintro rfl
    exact ⟨rfl, rfl, rfl, rfl⟩
  edits z := by
    rw [show MapEngine.reset.latch.zoneEdits[z] = none from fill_get _ _ _]
    exact fun _ h => nomatch h
  savedZones _ hc := nomatch hc

end MapSettings

/-! ### What a step does to the configuration -/

theorem settingsLaw_iff {s : State} : SettingsLaw s ↔ InputSettings s.input ∧ MapSettings s.map :=
  ⟨fun h => ⟨⟨⟨h.routing, h.trims⟩, h.curves, h.interval, h.substitutes⟩,
      ⟨h.passes, h.bindings, h.zones, h.edits, h.savedZones⟩⟩,
    fun ⟨⟨⟨hrouting, htrims⟩, hcurves, hinterval, hsubstitutes⟩, ⟨hpasses, hbindings, hzones, hedits, hsaved⟩⟩ =>
      ⟨hrouting, htrims, hcurves, hinterval, hsubstitutes, hpasses, hbindings, hzones, hedits, hsaved⟩⟩

/-- The configuration of the state is in its ranges and free of conflicts, block by block. -/
def SettingsSound (s : State) : Prop := InputSettings s.input ∧ MapSettings s.map

namespace SettingsSound

theorem publish {s : State} (hs : SettingsSound s) : SettingsSound s.publish := by
  unfold State.publish
  split
  · exact hs
  · exact ⟨hs.1, (hs.2.completed _).takeWaiting⟩

theorem stateFlowClosed : StateFlowClosed SettingsSound where
  transit _ _ hs := hs
  draws _ _ hs := hs
  logged _ _ hs := hs
  arrived _ _ hs := hs

theorem eventClosed : EventClosed SettingsSound where
  toStateFlowClosed := stateFlowClosed
  outstanding _ _ hs := ⟨⟨hs.1.channels, hs.1.curves, hs.1.interval, hs.1.substitutes⟩, hs.2⟩
  asked _ _ hs := ⟨⟨hs.1.channels, hs.1.curves, hs.1.interval, hs.1.substitutes⟩, hs.2⟩
  delivered s _ _ hs := by
    refine ⟨?_, MapSettings.imageArrives (s := s.setScan .waiting) hs.2 _⟩
    rw [State.imageArrives_input]
    exact ⟨hs.1.channels, hs.1.curves, hs.1.interval, hs.1.substitutes⟩
  card s k f hf hs := ⟨hs.1.updCard (by rw [hf]; exact hs.1.substitutes k), hs.2⟩
  due _ _ hs := ⟨⟨hs.1.channels, hs.1.curves, hs.1.interval, hs.1.substitutes⟩, hs.2⟩
  opened _ hs := ⟨hs.1.openScan, hs.2⟩
  reading s c r _ hs := ⟨hs.1.giveReading c r, by rw [State.giveReading_map]; exact hs.2⟩

theorem ownerClosed : OwnerClosed SettingsSound where
  toEventClosed := eventClosed
  conditions _ hs := hs
  started _ _ _ hs := ⟨hs.1.resetRun, hs.2.resetRun⟩
  stopped _ hs := ⟨⟨hs.1.channels, hs.1.curves, hs.1.interval, hs.1.substitutes⟩, hs.2.abandon⟩
  paused _ _ hs := ⟨⟨hs.1.channels, hs.1.curves, hs.1.interval, hs.1.substitutes⟩, hs.2⟩
  resumed _ _ hs := ⟨hs.1, ⟨hs.2.passes, hs.2.bindings, hs.2.zones, hs.2.edits, hs.2.savedZones⟩⟩
  restarted _ hs := by
    have hinput := hs.1.resetRun
    have hmap := hs.2.abandon.resetRun
    exact ⟨⟨hinput.channels, hinput.curves, hinput.interval, hinput.substitutes⟩,
      ⟨hmap.passes, hmap.bindings, hmap.zones, hmap.edits, hmap.savedZones⟩⟩
  timeTag _ _ hs := hs
  resolution _ _ hs := hs
  interval _ _ hlow hhigh hs := ⟨⟨hs.1.channels, hs.1.curves, ⟨hlow, hhigh⟩, hs.1.substitutes⟩, hs.2⟩
  channel s c card input _ _ _ _ _ _ hok hfree hs :=
    ⟨hs.1.setChannels (hs.1.channels.changed c (channelSettingsOk_iff.1 hok) fun he => no_conflict (hfree he)), hs.2⟩
  enable s c b hfree hs := by
    refine ⟨hs.1.setChannels (hs.1.channels.changed c (hs.1.channels.trims c) fun hb d hd he hcard hinput => ?_), hs.2⟩
    cases hc : s.input.channels[c].enabled
    · exact no_conflict (hfree hb hc) d hd he hcard hinput
    · exact hd (hs.1.channels.routing d c he hc hcard hinput)
  curve s n curve _ hok hs :=
    ⟨⟨hs.1.channels, forall_upd (Q := fun _ => CurveLaw) hs.1.curves fun _ => (curveOk_iff.1 hok).2,
      hs.1.interval, hs.1.substitutes⟩, hs.2⟩
  substitute s k t _ hlow hhigh hs := ⟨hs.1.updCard ⟨hlow, hhigh⟩, hs.2⟩
  pass s p n limit _ hlow hhigh hlimit hs := ⟨hs.1, hs.2.setPass p ⟨hlow, hhigh⟩ hlimit⟩
  binding s pl i b _ hb hs := ⟨hs.1, ⟨hs.2.passes,
    forall_upd (Q := fun _ => BindingLaw) hs.2.bindings fun _ => bindingLaw_of_payloadBinding hb, hs.2.zones,
    hs.2.edits, hs.2.savedZones⟩⟩
  zone s pl z r hr hs := ⟨hs.1, ⟨hs.2.passes, hs.2.bindings, hs.2.zones,
    forall_upd (Q := EditLaw) hs.2.edits fun _ e he => Option.some.inj he ▸ zoneLaw_of_payloadZone hr,
    hs.2.savedZones⟩⟩
  hold _ _ _ hs := ⟨hs.1, ⟨hs.2.passes, hs.2.bindings, hs.2.zones, hs.2.edits, hs.2.savedZones⟩⟩
  peaks _ _ hs := ⟨hs.1, ⟨hs.2.passes, hs.2.bindings, hs.2.zones, hs.2.edits, hs.2.savedZones⟩⟩
  trend _ _ _ _ _ _ hs := hs
  logClear _ hs := hs
  taken _ _ hs := hs
  mask _ _ hs := hs
  unmask _ _ hs := hs
  level _ _ hs := hs
  permit _ _ _ _ hs := hs

theorem stepClosed : StepClosed SettingsSound where
  toOwnerClosed := ownerClosed
  queue _ _ hs := hs
  port s p q hs := by rwa [SettingsSound, State.setPort_input, State.setPort_map]
  frameError _ hs := hs
  maintWrite _ hs := hs
  supply _ _ _ hs := hs
  reset _ _ _ _ := ⟨.reset, .reset⟩

end SettingsSound

/-- Settles O60: a step writes the configuration by the checked requests, the latch of a computation and its
abandonment, the publication and the resets alone, and each of them keeps the law. -/
theorem stepKeepsSettingsLaw : Obligations.StepKeepsSettingsLaw := fun s t hs ht =>
  settingsLaw_iff.2 (SettingsSound.stepClosed.step s t (settingsLaw_iff.1 hs) (fun _ h => h.publish) ht)

end Sys2Proof.Machine
end

section
/-! PROOF. What a command can do, said once: the owner of a request kind answers a refusal and leaves the state, or answers DONE with its one update; a command of a port does one of a few things to it. -/

namespace Sys2Proof.Machine

/-! ### The owners -/

/-- What the owner of a request kind can do: answer any code and leave the state, or answer DONE with the update
of its kind, the checks of the kind having passed. -/
inductive Served : RequestKind → State → ResultCode → State → Prop
  | left (k : RequestKind) (s : State) (code : ResultCode) : Served k s code s
  | conditions (s : State) : Served .conditionsTake s .done
      { s with notices := { s.notices with flags := ⟨false, false, false, false⟩ } }
  | started (s : State) (hstate : s.op.state = .stopped) (hvalid : startRefusal s.input = none) :
      Served .start s .done (s.resetRun.setOpState .running).beginScan
  | stopped (s : State) (hstate : s.op.state ≠ .stopped) :
      Served .stop s .done (s.abortScan.abandonMap.setOpState .stopped)
  | paused (s : State) (hstate : s.op.state = .running) :
      Served .pause s .done (s.abortScan.setOpState .paused)
  | resumed (s : State) (hstate : s.op.state = .paused) : Served .resume s .done
      (State.setOpState { s with map := { s.map with resumeMarker := true } } .running).beginScan
  | restarted (s : State) :
      Served .restart s .done (s.abortScan.abandonMap.resetRun.restartRest.setOpState .stopped)
  | timeTag (s : State) (tag : Word32) : Served .syncTime s .done (s.setTimeTag tag)
  | resolution (s : State) (r : Resolution) :
      Served .timeResSet s .done { s with op := { s.op with resolution := r } }
  | interval (s : State) (n : Nat) : Served .scanSet s .done { s with input := { s.input with interval := n } }
  | channel (s : State) (c : ChannelNo) (card : CardNo) (input : Fin 16) (curve : Fin 4)
      (gain offset low high : Int) (hstate : s.op.state = .stopped) : Served .channelSet s .done
      (s.updChannel c fun e => { e with
        card := card, input := input, curve := curve
        gain := gain, offset := offset, lowClamp := low, highClamp := high })
  | enable (s : State) (c : ChannelNo) (b : Bool) :
      Served .channelEnable s .done (s.updChannel c fun e => { e with enabled := b })
  | curve (s : State) (n : Fin 4) (curve : List Breakpoint) : Served .curveSet s .done
      { s with input := { s.input with curves := upd s.input.curves n fun _ => curve } }
  | substitute (s : State) (k : CardNo) (t : Int) :
      Served .cardSet s .done (s.updCard k fun e => { e with substitute := t })
  | pass (s : State) (p : PassNo) (n : Nat) (limit : Option Int) :
      Served .passSet s .done { s with map := s.map.setPass p n limit }
  | binding (s : State) (i : CellIndex) (b : Binding) : Served .cellBind s .done
      { s with map := { s.map with bindings := upd s.map.bindings i fun _ => b } }
  | latch (k : RequestKind) (hk : k ∈ [RequestKind.zoneSet, .holdPass, .releasePass, .clearPeaks]) (s : State)
      (l : ControlLatch) : Served k s .done (s.setLatch l)
  | trend (s : State) (p : PassNo) (c : TrendConfig) :
      Served .trendSet s .done { s with trend := s.trend.configure p c }
  | logClear (s : State) : Served .logClear s .done { s with log := s.log.clear }
  | taken (s : State) (n : Nat) : Served .noticeTake s .done (s.setQueue (takeEntries n s.notices.queue).2)
  | mask (s : State) (k : NoticeKind) : Served .noticeMaskSet s .done { s with notices := s.notices.mask k }
  | unmask (s : State) (k : NoticeKind) : Served .noticeMaskSet s .done { s with notices := s.notices.unmask k }
  | level (s : State) (level : Fin 4) :
      Served .attentionSet s .done { s with notices := { s.notices with level := level } }
  | permit (s : State) (k : RequestKind) (b : Bool) : Served .permitSet s .done
      { s with link := { s.link with permits := upd s.link.permits (kindIndex k) fun _ => b } }

/-- An answer and a state are what the owner of the kind can do. -/
def ServedBy (k : RequestKind) (s : State) (x : Answer × State) : Prop := Served k s x.1.code x.2

variable {k : RequestKind} {s t : State} {p : Port} {pl : List Byte}

theorem ServedBy.refusal (code : ResultCode) : ServedBy k s (answer code s) := .left k s code

theorem Served.eq_of_not_done {code : ResultCode} (h : Served k s code t) (hc : code ≠ .done) : t = s := by
  cases h with
  | left => rfl
  | _ => exact absurd rfl hc

/-- A read kind's owner leaves the state. -/
theorem serveKind_read (hk : isReadKind k = true) : (serveKind k p pl s).2 = s :=
  OwnerClosed.serve_read (P := fun t => t = s) pl s rfl k p hk

theorem serveStart_served (s : State) : ServedBy .start s (serveStart s) := by
  unfold serveStart
  split
  · exact .refusal _
  next hstate =>
    split
    · exact .left _ _ _
    next hvalid => exact .started s (not_not.1 hstate) hvalid

theorem serveStop_served (pl : List Byte) (s : State) : ServedBy .stop s (serveStop pl s) := by
  unfold serveStop
  split
  · exact .refusal _
  next hpass =>
    refine .stopped s fun hstopped => ?_
    unfold stopRefusal at hpass
    split at hpass
    · cases hpass
    · simp [hstopped] at hpass

theorem servePause_served (pl : List Byte) (s : State) : ServedBy .pause s (servePause pl s) := by
  unfold servePause
  split
  · exact .refusal _
  next hpass =>
    refine .paused s ?_
    unfold stopRefusal at hpass
    split at hpass
    · cases hpass
    · by_contra hstate
      simp [hstate] at hpass

theorem serveResume_served (s : State) : ServedBy .resume s (serveResume s) := by
  unfold serveResume
  split
  · exact .refusal _
  next hstate => exact .resumed s (not_not.1 hstate)

theorem serveRestart_served (pl : List Byte) (s : State) : ServedBy .restart s (serveRestart pl s) := by
  unfold serveRestart
  split
  · exact .refusal _
  · exact .restarted s

theorem serveSyncTime_served (pl : List Byte) (s : State) : ServedBy .syncTime s (serveSyncTime pl s) := by
  unfold serveSyncTime
  split
  · exact .refusal _
  · exact .timeTag s _

theorem serveTimeResSet_served (pl : List Byte) (s : State) : ServedBy .timeResSet s (serveTimeResSet pl s) := by
  unfold serveTimeResSet
  split
  · exact .refusal _
  · exact .resolution s _

theorem serveScanSet_served (pl : List Byte) (s : State) : ServedBy .scanSet s (serveScanSet pl s) := by
  unfold serveScanSet
  split
  · exact .interval s _
  · exact .refusal _

theorem serveChannelSet_served (pl : List Byte) (s : State) : ServedBy .channelSet s (serveChannelSet pl s) := by
  unfold serveChannelSet
  split
  · exact .refusal _
  next hstate =>
    split
    · split
      · exact .refusal _
      · split
        · exact .refusal _
        · exact .channel s _ _ _ _ _ _ _ _ (not_not.1 hstate)
    · exact .refusal _

theorem serveChannelEnable_served (pl : List Byte) (s : State) :
    ServedBy .channelEnable s (serveChannelEnable pl s) := by
  unfold serveChannelEnable
  split
  · dsimp only
    split
    · exact .refusal _
    · exact .enable s _ _
  · exact .refusal _

theorem serveCurveSet_served (pl : List Byte) (s : State) : ServedBy .curveSet s (serveCurveSet pl s) := by
  unfold serveCurveSet
  split
  · exact .refusal _
  · split
    · exact .refusal _
    · split
      · exact .refusal _
      · dsimp only
        split
        · exact .curve s _ _
        · exact .refusal _

theorem serveCardSet_served (pl : List Byte) (s : State) : ServedBy .cardSet s (serveCardSet pl s) := by
  unfold serveCardSet
  split
  · exact .refusal _
  · split
    · exact .refusal _
    · split
      · exact .substitute s _ _
      · exact .refusal _

theorem servePassSet_served (pl : List Byte) (s : State) : ServedBy .passSet s (servePassSet pl s) := by
  unfold servePassSet
  split
  · exact .refusal _
  · split
    · exact .refusal _
    · split
      · exact .refusal _
      · split
        · exact .refusal _
        · exact .pass s _ _ _

theorem serveCellBind_served (pl : List Byte) (s : State) : ServedBy .cellBind s (serveCellBind pl s) := by
  unfold serveCellBind
  split
  · exact .refusal _
  · split
    · exact .binding s _ _
    · exact .refusal _

theorem serveZoneSet_served (pl : List Byte) (s : State) : ServedBy .zoneSet s (serveZoneSet pl s) := by
  unfold serveZoneSet
  split
  · exact .refusal _
  · split
    · exact .refusal _
    · exact .latch _ (by decide) s _

theorem writeHold_served (hk : k ∈ [RequestKind.zoneSet, .holdPass, .releasePass, .clearPeaks]) (b : Bool)
    (pl : List Byte) (s : State) : ServedBy k s (writeHold b pl s) := by
  unfold writeHold
  split
  · exact .refusal _
  · exact .latch _ hk s _

theorem serveClearPeaks_served (pl : List Byte) (s : State) : ServedBy .clearPeaks s (serveClearPeaks pl s) := by
  unfold serveClearPeaks
  split
  · exact .refusal _
  · exact .latch _ (by decide) s _

theorem serveTrendSet_served (pl : List Byte) (s : State) : ServedBy .trendSet s (serveTrendSet pl s) := by
  unfold serveTrendSet
  split
  · exact .refusal _
  · split
    · split
      · exact .refusal _
      · exact .trend s _ _
    · exact .refusal _

theorem serveNoticeMaskSet_served (pl : List Byte) (s : State) :
    ServedBy .noticeMaskSet s (serveNoticeMaskSet pl s) := by
  unfold serveNoticeMaskSet
  split
  next b _ _ =>
    cases b
    · exact .unmask s _
    · exact .mask s _
  · exact .refusal _

theorem serveAttentionSet_served (pl : List Byte) (s : State) :
    ServedBy .attentionSet s (serveAttentionSet pl s) := by
  unfold serveAttentionSet
  split
  · exact .level s _
  · exact .refusal _

theorem servePermitSet_served (pl : List Byte) (s : State) : ServedBy .permitSet s (servePermitSet pl s) := by
  unfold servePermitSet
  split
  · split
    · exact .refusal _
    · exact .permit s _ _
  · exact .refusal _

/-- The owner of every kind, once and for all. -/
theorem serveKind_served (k : RequestKind) (p : Port) (pl : List Byte) (s : State) :
    ServedBy k s (serveKind k p pl s) := by
  cases hk : isReadKind k
  case true =>
    rw [ServedBy, serveKind_read hk]
    exact .left k s _
  case false =>
    cases k <;> try cases hk
    case conditionsTake => exact .conditions s
    case start => exact serveStart_served s
    case stop => exact serveStop_served pl s
    case pause => exact servePause_served pl s
    case resume => exact serveResume_served s
    case restart => exact serveRestart_served pl s
    case syncTime => exact serveSyncTime_served pl s
    case timeResSet => exact serveTimeResSet_served pl s
    case scanSet => exact serveScanSet_served pl s
    case channelSet => exact serveChannelSet_served pl s
    case channelEnable => exact serveChannelEnable_served pl s
    case curveSet => exact serveCurveSet_served pl s
    case cardSet => exact serveCardSet_served pl s
    case passSet => exact servePassSet_served pl s
    case cellBind => exact serveCellBind_served pl s
    case zoneSet => exact serveZoneSet_served pl s
    case holdPass => exact writeHold_served (by decide) true pl s
    case releasePass => exact writeHold_served (by decide) false pl s
    case clearPeaks => exact serveClearPeaks_served pl s
    case trendSet => exact serveTrendSet_served pl s
    case logClear => exact .logClear s
    case noticeTake => exact .taken s _
    case noticeMaskSet => exact serveNoticeMaskSet_served pl s
    case attentionSet => exact serveAttentionSet_served pl s
    case permitSet => exact servePermitSet_served pl s

/-! ### The commands of a port -/

/-- What a command of a port can do: nothing, a change of what the port has assembled, a damaged frame, a refusal,
a broadcast SYNC_TIME, the end of the reply, or the answer of a request's owner. -/
inductive PortEffect (p : Port) (s : State) : State → Prop
  | unchanged : PortEffect p s s
  | assembly (a : Assembly) : PortEffect p s (s.setPort p ⟨a, (s.port p).reply⟩)
  | damaged : PortEffect p s (s.hunt p).setFrameError
  | refused (kind : Byte) (code : ResultCode) (hcode : code ≠ .done) : PortEffect p s (s.sendReply p kind ⟨code, []⟩)
  | synced (tag : Word32) : PortEffect p s (((s.setTimeTag tag).noteWrite p .syncTime .done).hunt p)
  | ended : PortEffect p s (s.setPort p PortState.reset)
  | served (k : RequestKind) (pl : List Byte) (hop : s.operating = true) (hlen : lengthOk k pl.length = true) :
      PortEffect p s (((serveKind k p pl s).2.noteWrite p k (serveKind k p pl s).1.code).sendReply p k.code
        (serveKind k p pl s).1)

theorem operating_of_listening (h : s.listening p = true) : s.operating = true := (Bool.and_eq_true_iff.1 h).1

theorem takeRequest_effect (k : RequestKind) (p : Port) (pl : List Byte) (s : State) :
    PortEffect p s (s.takeRequest p k pl (serveKind k p pl)) := by
  rcases takeRequest_cases s p k pl (serveKind k p pl) with
    ⟨e, -⟩ | ⟨hlisten, ⟨-, -, e⟩ | ⟨-, e⟩ | ⟨-, hlen, e⟩⟩ <;> rw [e]
  · exact .unchanged
  · exact .refused _ _ (by decide)
  · exact .refused _ _ (by decide)
  · exact .served k pl (operating_of_listening hlisten) hlen

theorem takeKind_effect (kind : Byte) (p : Port) (pl : List Byte) (s : State) :
    PortEffect p s (s.takeKind p kind pl) := by
  unfold State.takeKind
  split
  · exact takeRequest_effect _ p pl s
  · split
    · exact .refused _ _ (by decide)
    · exact .unchanged

theorem broadcastSync_effect (p : Port) (pl : List Byte) (s : State) : PortEffect p s (s.broadcastSync p pl) := by
  unfold State.broadcastSync
  split
  · exact .unchanged
  · split
    · exact .assembly _
    · split
      · exact .synced _
      · exact .assembly _

theorem ignoreFrame_effect (p : Port) (s : State) : PortEffect p s (s.ignoreFrame p) := by
  unfold State.ignoreFrame
  split
  · exact .assembly _
  · exact .unchanged

theorem damageFrame_effect (p : Port) (s : State) : PortEffect p s (s.damageFrame p) := by
  unfold State.damageFrame
  split
  · exact .damaged
  · exact .unchanged

theorem handleFrame_effect (address kind : Byte) (p : Port) (pl : List Byte) (s : State) :
    PortEffect p s (s.handleFrame p address kind pl) := by
  unfold State.handleFrame
  split
  · exact takeKind_effect kind p pl s
  · split
    · exact broadcastSync_effect p pl s
    · exact ignoreFrame_effect p s

theorem receiveByte_effect (p : Port) (b : Byte) (s : State) : PortEffect p s (s.receiveByte p b) := by
  unfold State.receiveByte
  split
  · split
    · split
      · exact .assembly _
      · exact .unchanged
    · unfold State.assembled
      split
      · exact damageFrame_effect p s
      · split
        · split
          · exact handleFrame_effect _ _ p _ s
          · exact damageFrame_effect p s
        · exact .assembly _
  · exact .unchanged

theorem gapTimeout_effect (p : Port) (s : State) : PortEffect p s (s.gapTimeout p) := by
  unfold State.gapTimeout
  split
  · exact .unchanged
  · exact damageFrame_effect p s

theorem endReply_effect (p : Port) (s : State) : PortEffect p s (s.endReply p) := by
  unfold State.endReply
  split
  · exact .ended
  · exact .unchanged

/-- The events of the card link, the timer, the time tag and the Map Engine, in a part that operates. -/
inductive EventEffect (s : State) : State → Prop
  | conversion (sound : Bool) (card : CardNo) (input : Fin 16) (emf : Int) (burnout : Bool) :
      EventEffect s (s.conversionArrives sound card input emf burnout)
  | coldJunction (sound : Bool) (card : CardNo) (temperature : Int) :
      EventEffect s (s.coldJunctionArrives sound card temperature)
  | expiry : EventEffect s s.answerPeriodExpires
  | timer : EventEffect s s.timerExpires
  | period : EventEffect s s.timeTagPeriod
  | publication : EventEffect s s.publish

/-- What a command can do, once and for all: it is a row of the supply or the pin, a command of a port, an event
that is without effect in a part that does not operate, or an event in one that does. -/
theorem exec_cases {c : Instr} (h : exec c s = .next t) :
    c.isSupplyRow = true ∨ (∃ p, c.onPort = some p ∧ PortEffect p s t)
    ∨ (c.onPort = none ∧ c.isSupplyRow = false ∧ ((s.operating = false ∧ t = s) ∨ (s.operating = true ∧ EventEffect s t))) := by
  have event : ∀ u : State, EventEffect s u → (if s.operating then u else s) = t →
      (s.operating = false ∧ t = s) ∨ (s.operating = true ∧ EventEffect s t) := by
    intro u hu ht
    cases hop : s.operating <;> simp only [hop] at ht
    · exact .inl ⟨rfl, ht.symm⟩
    · exact .inr ⟨rfl, by rw [← ht]; exact hu⟩
  obtain ⟨k, p, pl, rfl⟩ | ⟨p, pl, rfl⟩ | hc | ⟨p, kind, pl, rfl⟩ | ⟨p, rfl⟩ | ⟨p, rfl⟩ | ⟨p, rfl⟩ | ⟨p, rfl⟩
    | ⟨sound, card, input, emf, burnout, rfl⟩ | ⟨sound, card, temp, rfl⟩ | rfl | rfl | rfl | rfl | ⟨p, b, rfl⟩
    := command_cases c
  · rw [exec_command] at h
    cases h
    exact .inr (.inl ⟨p, by cases k <;> rfl, takeRequest_effect k p pl s⟩)
  · cases h
    exact .inr (.inl ⟨p, rfl, broadcastSync_effect p pl s⟩)
  · exact .inl hc
  · cases h
    exact .inr (.inl ⟨p, rfl, takeKind_effect kind p pl s⟩)
  · cases h
    exact .inr (.inl ⟨p, rfl, ignoreFrame_effect p s⟩)
  · cases h
    exact .inr (.inl ⟨p, rfl, damageFrame_effect p s⟩)
  · cases h
    exact .inr (.inl ⟨p, rfl, gapTimeout_effect p s⟩)
  · cases h
    exact .inr (.inl ⟨p, rfl, endReply_effect p s⟩)
  · exact .inr (.inr ⟨rfl, rfl, event _ (.conversion sound card input emf burnout) (Host.Outcome.next.inj h)⟩)
  · exact .inr (.inr ⟨rfl, rfl, event _ (.coldJunction sound card temp) (Host.Outcome.next.inj h)⟩)
  · exact .inr (.inr ⟨rfl, rfl, event _ .expiry (Host.Outcome.next.inj h)⟩)
  · exact .inr (.inr ⟨rfl, rfl, event _ .timer (Host.Outcome.next.inj h)⟩)
  · exact .inr (.inr ⟨rfl, rfl, event _ .period (Host.Outcome.next.inj h)⟩)
  · exact .inr (.inr ⟨rfl, rfl, event _ .publication (Host.Outcome.next.inj h)⟩)
  · cases h
    exact .inr (.inl ⟨p, rfl, receiveByte_effect p b s⟩)

end Sys2Proof.Machine
end

section
/-! PROOF. The law of the scan and of the intake (R30, R33, R38, R41, R73): an open scan between its last answer and its next request, and what each event and request of an operating state leaves. -/

namespace Sys2Proof.Machine

variable {s t : State} {scan : OpenScan} {c : ChannelNo} {rest : List ChannelNo} {k : RequestKind}

/-! ### The scan's part and the intake's part -/

/-- The scan's part of the law. -/
def ScanPart (s : State) : Prop :=
  match s.input.scan with
  | .idle => s.op.state ≠ .running ∧ s.op.timer = none ∧ s.input.due = false
      ∧ ∀ o, s.input.outstanding = some o → o.aborted = true
  | .waiting => s.op.state = .running ∧ s.op.timer.isSome = true ∧ s.input.due = false
      ∧ ∀ o, s.input.outstanding = some o → o.aborted = true
  | .scanning scan => s.op.state = .running ∧ s.op.timer.isSome = true
      ∧ scan.number = s.input.scanNumber ∧ scan.remaining.Pairwise (· < ·)
      ∧ (∀ c ∈ scan.remaining, scan.readings[c] = none)
      ∧ ∃ c rest o, scan.remaining = c :: rest ∧ s.input.outstanding = some o
        ∧ s.input.cards[s.input.channels[c].card].lostInScan = false
        ∧ (o.aborted = false → o.request = requestFor scan s.input.channels[c])

/-- The intake's part of the law. -/
structure IntakePart (s : State) : Prop where
  waiting : s.map.waiting.isSome = true → s.map.computing.isSome = true
  stopped : s.op.state = .stopped → s.map.computing = none ∧ s.map.resumeMarker = false

theorem scanLaw_iff : ScanLaw s ↔ ScanPart s ∧ IntakePart s := by
  have hparts : ScanLaw s ↔ ScanPart s ∧ (s.map.waiting.isSome = true → s.map.computing.isSome = true)
      ∧ (s.op.state = .stopped → s.map.computing = none ∧ s.map.resumeMarker = false) := by
    unfold ScanLaw ScanPart
    generalize s.input.scan = x
    cases x <;> exact Iff.rfl
  rw [hparts]
  exact and_congr_right fun _ => ⟨fun ⟨hwaiting, hstopped⟩ => ⟨hwaiting, hstopped⟩,
    fun ⟨hwaiting, hstopped⟩ => ⟨hwaiting, hstopped⟩⟩

/-- An outstanding request, if there is one, is of an aborted scan. -/
def NoneAwaited (s : State) : Prop := ∀ o, s.input.outstanding = some o → o.aborted = true

theorem scanPart_idle (h : s.input.scan = .idle) : ScanPart s ↔
    s.op.state ≠ .running ∧ s.op.timer = none ∧ s.input.due = false ∧ NoneAwaited s := by
  unfold ScanPart
  rw [h]
  rfl

theorem scanPart_waiting (h : s.input.scan = .waiting) : ScanPart s ↔
    s.op.state = .running ∧ s.op.timer.isSome = true ∧ s.input.due = false ∧ NoneAwaited s := by
  unfold ScanPart
  rw [h]
  rfl

theorem scanPart_scanning (h : s.input.scan = .scanning scan) : ScanPart s ↔
    s.op.state = .running ∧ s.op.timer.isSome = true
    ∧ scan.number = s.input.scanNumber ∧ scan.remaining.Pairwise (· < ·)
    ∧ (∀ c ∈ scan.remaining, scan.readings[c] = none)
    ∧ ∃ c rest o, scan.remaining = c :: rest ∧ s.input.outstanding = some o
      ∧ s.input.cards[s.input.channels[c].card].lostInScan = false
      ∧ (o.aborted = false → o.request = requestFor scan s.input.channels[c]) := by
  unfold ScanPart
  rw [h]

/-- Outside RUNNING no scan is open or awaited. -/
theorem ScanPart.idle (h : ScanPart s) (hstate : s.op.state ≠ .running) :
    s.input.scan = .idle ∧ s.input.due = false ∧ NoneAwaited s := by
  cases hscan : s.input.scan with
  | idle =>
    obtain ⟨-, -, hdue, hnone⟩ := (scanPart_idle hscan).1 h
    exact ⟨rfl, hdue, hnone⟩
  | waiting => exact absurd ((scanPart_waiting hscan).1 h).1 hstate
  | scanning scan => exact absurd ((scanPart_scanning hscan).1 h).1 hstate

/-! ### An open scan with no request of its own outstanding -/

/-- A part in RUNNING that awaits no answer of its scan. -/
structure RunOn (s : State) : Prop where
  state : s.op.state = .running
  awaited : NoneAwaited s
  intake : s.map.waiting.isSome = true → s.map.computing.isSome = true

/-- An open scan between the end of one request and the sending of the next. -/
structure MidScan (s : State) (scan : OpenScan) : Prop extends RunOn s where
  scanning : s.input.scan = .scanning scan
  timer : s.op.timer.isSome = true
  number : scan.number = s.input.scanNumber
  order : scan.remaining.Pairwise (· < ·)
  unread : ∀ c ∈ scan.remaining, scan.readings[c] = none

theorem RunOn.intakePart (h : RunOn s) : IntakePart s :=
  ⟨h.intake, fun hstopped => absurd (h.state.symm.trans hstopped) (by decide)⟩

/-- The intake computes once an image has arrived. -/
theorem imageArrives_computing (s : State) (image : ScanImage) :
    (s.imageArrives image).map.computing.isSome = true := by
  unfold State.imageArrives
  dsimp only
  split
  · rfl
  next h _ => simp [h]
  next h _ => simp [h]

theorem RunOn.deliverImage (h : RunOn s) (hscan : s.input.scan = .scanning scan) :
    RunOn s.deliverImage ∧ s.deliverImage.input = { s.input with scan := .waiting } := by
  have hinput : s.deliverImage.input = { s.input with scan := .waiting } := by
    rw [State.deliverImage, hscan]
    dsimp only
    rw [State.imageArrives_input]
    rfl
  refine ⟨⟨by rw [State.deliverImage_op]; exact h.state, by rw [NoneAwaited, hinput]; exact h.awaited, fun _ => ?_⟩, hinput⟩
  rw [State.deliverImage, hscan]
  exact imageArrives_computing _ _

/-- A scan delivered with the due marker clear leaves the Input Processor WAITING. -/
theorem MidScan.deliverImage (h : MidScan s scan) (hdue : s.input.due = false) : ScanLaw s.deliverImage := by
  obtain ⟨hrun, hinput⟩ := h.toRunOn.deliverImage h.scanning
  have hwaiting : s.deliverImage.input.scan = .waiting := by rw [hinput]
  refine scanLaw_iff.2 ⟨(scanPart_waiting hwaiting).2 ⟨hrun.state, ?_, ?_, hrun.awaited⟩, hrun.intakePart⟩
  · rw [State.deliverImage_op]
    exact h.timer
  · rw [hinput]
    exact hdue

/-- The next channel's request is sent, or waits for that of an aborted scan. -/
theorem MidScan.sendFor (h : MidScan s scan) (hr : scan.remaining = c :: rest)
    (hlost : s.input.cards[s.input.channels[c].card].lostInScan = false) : ScanLaw (s.sendFor c) := by
  have hscan := h.scanning
  cases ho : s.input.outstanding with
  | none =>
    rw [s.sendFor_scanning c hscan ho]
    have hscan' : (s.setOutstanding (some ⟨requestFor scan s.input.channels[c], false⟩)).input.scan = .scanning scan :=
      hscan
    exact scanLaw_iff.2 ⟨(scanPart_scanning hscan').2 ⟨h.state, h.timer, h.number,
      h.order, h.unread, c, rest, _, hr, rfl, hlost, fun _ => rfl⟩, h.intake, h.toRunOn.intakePart.stopped⟩
  | some o =>
    have hsame : s.sendFor c = s := by simp [State.sendFor, hscan, ho]
    rw [hsame]
    exact scanLaw_iff.2 ⟨(scanPart_scanning hscan).2 ⟨h.state, h.timer, h.number, h.order, h.unread, c, rest, o, hr,
      ho, hlost, fun hfalse => absurd (h.awaited o ho) (by rw [hfalse]; decide)⟩, h.toRunOn.intakePart⟩

theorem scanList_pairwise (channels : Vector ChannelEntry 96) : (scanList channels).Pairwise (· < ·) :=
  (List.pairwise_lt_finRange 96).filter _

/-- A scan's open leaves it before its first request. -/
theorem RunOn.openScan (h : RunOn s) : ∃ scan, MidScan s.openScan scan
    ∧ scan.remaining = scanList s.openScan.input.channels ∧ ∀ k : CardNo, s.openScan.input.cards[k].lostInScan = false := by
  refine ⟨_, ⟨⟨h.state, h.awaited, h.intake⟩, rfl, rfl, rfl, scanList_pairwise _, fun c _ => ?_⟩, rfl, fun k => ?_⟩
  · exact fill_get _ _ _
  · rw [State.openScan_input_cards, Fin.getElem_fin, tab_get]

/-- A scan opens with the due marker clear: its first request is sent, or it closes at once. -/
theorem RunOn.beginScan (h : RunOn s) (hdue : s.input.due = false) : ScanLaw s.beginScan := by
  obtain ⟨scan, hmid, hremaining, hlost⟩ := h.openScan
  unfold State.beginScan
  dsimp only
  split
  next hnil => exact hmid.deliverImage hdue
  next c rest hcons => exact hmid.sendFor (hremaining.trans hcons) (hlost _)

theorem MidScan.closeScan (h : MidScan s scan) : ScanLaw s.closeScan := by
  obtain ⟨hrun, hinput⟩ := h.toRunOn.deliverImage h.scanning
  unfold State.closeScan
  dsimp only
  split
  next =>
    refine RunOn.beginScan ⟨?_, ?_, ?_⟩ ?_
    · rw [State.emit_op]
      exact hrun.state
    · rw [NoneAwaited, State.emit_input]
      exact hrun.awaited
    · rw [State.emit_map]
      exact hrun.intake
    · rw [State.emit_input]
  next hdue =>
    rw [hinput] at hdue
    exact h.deliverImage (Bool.eq_false_iff.2 hdue)

/-- A reading of the channel whose turn it is takes it off the list. -/
theorem MidScan.giveReading (h : MidScan s scan) (hr : scan.remaining = c :: rest) (r : Reading) :
    ∃ scan', MidScan (s.giveReading c r) scan' ∧ scan'.remaining = rest := by
  have hscan' : ∃ r', (s.giveReading c r).input.scan = .scanning (scan.record c r') := by
    rw [State.giveReading_input_scan, h.scanning]
    exact ⟨_, rfl⟩
  obtain ⟨r', hscan'⟩ := hscan'
  have htail : (scan.record c r').remaining = rest := by rw [OpenScan.record, hr, List.tail_cons]
  have horder := h.order
  rw [hr, List.pairwise_cons] at horder
  refine ⟨scan.record c r', ⟨⟨?_, ?_, ?_⟩, hscan', ?_, ?_, ?_, fun d hd => ?_⟩, htail⟩
  · rw [State.giveReading_op]
    exact h.state
  · rw [NoneAwaited, State.giveReading_input_outstanding]
    exact h.awaited
  · rw [State.giveReading_map]
    exact h.intake
  · rw [State.giveReading_op]
    exact h.timer
  · rw [State.giveReading_input_scanNumber]
    exact h.number
  · rw [htail]
    exact horder.2
  · rw [htail] at hd
    have hne : d ≠ c := (horder.1 d hd).ne'
    show (upd scan.readings c fun _ => some r')[d] = none
    rw [Fin.getElem_fin, upd_get_ne _ _ _ _ _ (Fin.val_ne_of_ne hne)]
    exact h.unread d (by rw [hr]; exact List.mem_cons_of_mem _ hd)

/-- An open scan goes on to a state of the law: a MISSING reading for each channel of a lost card in turn, the next
request, or its close. -/
theorem MidScan.advance (l : List ChannelNo) : ∀ {s : State} {scan : OpenScan}, MidScan s scan → scan.remaining = l →
    ScanLaw (State.advance l s) := by
  induction l with
  | nil => exact fun h _ => h.closeScan
  | cons c rest ih =>
    intro s scan h hr
    unfold State.advance
    split
    next =>
      obtain ⟨scan', hmid, hremaining⟩ := h.giveReading hr (badReading .missing)
      exact ih hmid hremaining
    next hlost => exact h.sendFor hr (Bool.eq_false_iff.2 hlost)

theorem MidScan.goOn (h : MidScan s scan) : ScanLaw s.goOn := by
  unfold State.goOn
  rw [h.scanning]
  exact MidScan.advance _ h rfl

/-! ### The events of the card link and the timer -/

/-- The outstanding request ended: an open scan stands before its next request, any other state keeps the law. -/
theorem ScanLaw.requestEnded (h : ScanLaw s) :
    (∃ scan c rest, MidScan (s.setOutstanding none) scan ∧ scan.remaining = c :: rest)
    ∨ ((s.input.scan = .idle ∨ s.input.scan = .waiting) ∧ NoneAwaited s ∧ ScanLaw (s.setOutstanding none)) := by
  obtain ⟨hpart, hintake⟩ := scanLaw_iff.1 h
  have hnone : NoneAwaited (s.setOutstanding none) := fun o ho => nomatch ho
  have hintake' : IntakePart (s.setOutstanding none) := ⟨hintake.waiting, hintake.stopped⟩
  cases hscan : s.input.scan with
  | idle =>
    obtain ⟨hstate, htimer, hdue, hawaited⟩ := (scanPart_idle hscan).1 hpart
    exact .inr ⟨.inl rfl, hawaited, scanLaw_iff.2 ⟨(scanPart_idle (s := s.setOutstanding none) hscan).2
      ⟨hstate, htimer, hdue, hnone⟩, hintake'⟩⟩
  | waiting =>
    obtain ⟨hstate, htimer, hdue, hawaited⟩ := (scanPart_waiting hscan).1 hpart
    exact .inr ⟨.inr rfl, hawaited, scanLaw_iff.2 ⟨(scanPart_waiting (s := s.setOutstanding none) hscan).2
      ⟨hstate, htimer, hdue, hnone⟩, hintake'⟩⟩
  | scanning scan =>
    obtain ⟨hstate, htimer, hnumber, horder, hunread, c, rest, -, hr, -⟩ := (scanPart_scanning hscan).1 hpart
    exact .inl ⟨scan, c, rest, ⟨⟨hstate, hnone, hintake.waiting⟩, hscan, htimer, hnumber, horder, hunread⟩, hr⟩

/-- The outcome of a request of an aborted scan. -/
theorem ScanLaw.goOn_requestEnded (h : ScanLaw s) : ScanLaw (s.setOutstanding none).goOn := by
  rcases h.requestEnded with ⟨scan, c, rest, hmid, -⟩ | ⟨hclosed, -, hlaw⟩
  · exact hmid.goOn
  · rwa [State.goOn_closed (s := s.setOutstanding none) hclosed]

/-- A request that is not of an aborted scan is of the open one. -/
theorem ScanLaw.awaited (h : ScanLaw s) {o : Outstanding} (ho : s.input.outstanding = some o)
    (haborted : ¬ o.aborted = true) : ∃ scan c rest, MidScan (s.setOutstanding none) scan ∧ scan.remaining = c :: rest := by
  rcases h.requestEnded with hmid | ⟨-, hnone, -⟩
  · exact hmid
  · exact absurd (hnone o ho) haborted

/-- What leaves the operating state, the intake and the scan of a state leaves an open scan where it stands. -/
theorem MidScan.congr (h : MidScan s scan) (hop : t.op = s.op) (hmap : t.map = s.map)
    (hscan : t.input.scan = s.input.scan) (hout : t.input.outstanding = s.input.outstanding)
    (hnumber : t.input.scanNumber = s.input.scanNumber) : MidScan t scan where
  state := by rw [hop]; exact h.state
  awaited := by rw [NoneAwaited, hout]; exact h.awaited
  intake := by rw [hmap]; exact h.intake
  scanning := by rw [hscan]; exact h.scanning
  timer := by rw [hop]; exact h.timer
  number := by rw [hnumber]; exact h.number
  order := h.order
  unread := h.unread

theorem MidScan.cardAnswered (h : MidScan s scan) (k : CardNo) : MidScan (s.cardAnswered k) scan :=
  h.congr (by simp) (by simp) (by simp) (by simp) (by simp)

theorem MidScan.cardTimedOut (h : MidScan s scan) (k : CardNo) : MidScan (s.cardTimedOut k) scan :=
  h.congr (by simp) (by simp) (by simp) (by simp) (by simp)

theorem MidScan.updCard (h : MidScan s scan) (k : CardNo) (f : CardEntry → CardEntry) : MidScan (s.updCard k f) scan :=
  h.congr rfl rfl rfl rfl rfl

theorem MidScan.requestMissed (h : MidScan s scan) (r : CardRequest) : MidScan (s.requestMissed r) scan := by
  cases r with
  | conversion => exact h
  | coldJunction k => exact h.updCard k _

theorem MidScan.markAsked (h : MidScan s scan) (k : CardNo) :
    MidScan (s.setScan (markAsked k s.input.scan)) { scan with asked := upd scan.asked k fun _ => true } where
  state := h.state
  awaited := h.awaited
  intake := h.intake
  scanning := by
    show Machine.markAsked k s.input.scan = _
    rw [h.scanning]
    rfl
  timer := h.timer
  number := h.number
  order := h.order
  unread := h.unread

theorem MidScan.currentChannel (h : MidScan s scan) (hr : scan.remaining = c :: rest) : s.currentChannel = some c := by
  rw [State.currentChannel, h.scanning]
  dsimp only
  rw [hr]
  rfl

theorem ScanLaw.conversionArrives (h : ScanLaw s) (sound : Bool) (card : CardNo) (input : Fin 16) (emf : Int)
    (burnout : Bool) : ScanLaw (s.conversionArrives sound card input emf burnout) := by
  unfold State.conversionArrives
  split
  next o ho =>
    split
    · split
      · exact h.goOn_requestEnded
      next haborted =>
        obtain ⟨scan, c, rest, hmid, hr⟩ := h.awaited ho haborted
        unfold State.conversionTaken
        rw [hmid.currentChannel hr]
        obtain ⟨scan', hmid', -⟩ := (hmid.cardAnswered card).giveReading hr (convert _ _ _ emf burnout)
        exact hmid'.goOn
    · exact h
  · exact h

theorem ScanLaw.coldJunctionArrives (h : ScanLaw s) (sound : Bool) (card : CardNo) (temperature : Int) :
    ScanLaw (s.coldJunctionArrives sound card temperature) := by
  unfold State.coldJunctionArrives
  split
  next o ho =>
    split
    · split
      · exact h.goOn_requestEnded
      next haborted =>
        obtain ⟨scan, c, rest, hmid, hr⟩ := h.awaited ho haborted
        exact (((hmid.cardAnswered card).updCard card _).markAsked card).goOn
    · exact h
  · exact h

theorem ScanLaw.answerPeriodExpires (h : ScanLaw s) : ScanLaw s.answerPeriodExpires := by
  unfold State.answerPeriodExpires
  split
  next o ho =>
    split
    · exact h.goOn_requestEnded
    next haborted =>
      obtain ⟨scan, c, rest, hmid, hr⟩ := h.awaited ho haborted
      have htimedOut := (hmid.requestMissed o.request).cardTimedOut o.request.card
      unfold State.requestTimedOut
      dsimp only
      rw [htimedOut.currentChannel hr]
      obtain ⟨scan', hmid', -⟩ := htimedOut.giveReading hr (badReading .missing)
      exact hmid'.goOn
  · exact h

theorem ScanLaw.timerExpires (h : ScanLaw s) : ScanLaw s.timerExpires := by
  obtain ⟨hpart, hintake⟩ := scanLaw_iff.1 h
  unfold State.timerExpires
  split
  next hscan =>
    obtain ⟨hstate, -, hdue, hawaited⟩ := (scanPart_waiting hscan).1 hpart
    exact RunOn.beginScan ⟨hstate, hawaited, hintake.waiting⟩ hdue
  next hscan =>
    exact scanLaw_iff.2 ⟨(scanPart_scanning (s := { s with input := { s.input with due := true } }) hscan).2
      ((scanPart_scanning hscan).1 hpart), hintake.waiting, hintake.stopped⟩
  · exact h

theorem takeWaiting_intake (m : MapEngine) :
    (m.takeWaiting.waiting.isSome = true → m.takeWaiting.computing.isSome = true) := by
  unfold MapEngine.takeWaiting
  split
  next hw => simp [hw]
  next => exact fun _ => rfl

/-- A publication starts the waiting image's computation, or leaves the engine READY and nothing waiting. -/
theorem ScanLaw.publish (h : ScanLaw s) : ScanLaw s.publish := by
  obtain ⟨hpart, hintake⟩ := scanLaw_iff.1 h
  unfold State.publish
  split
  · exact h
  next c hc =>
    refine scanLaw_iff.2 ⟨hpart, takeWaiting_intake _, fun hstopped => ?_⟩
    exact absurd ((hintake.stopped hstopped).1) (by rw [hc]; simp)

/-! ### The requests -/

theorem noneAwaited_abortScan (s : State) : NoneAwaited s.abortScan := by
  intro o ho
  obtain ⟨o', -, rfl⟩ := Option.map_eq_some_iff.1 ho
  rfl

theorem abandon_intake (m : MapEngine) : m.abandon.computing = none ∧ m.abandon.waiting = none
    ∧ m.abandon.resumeMarker = false := by
  unfold MapEngine.abandon
  split
  next h => exact ⟨h, rfl, rfl⟩
  next => exact ⟨rfl, rfl, rfl⟩

theorem requestFor_congr (scan : OpenScan) {e e' : ChannelEntry} (hcard : e.card = e'.card) (hinput : e.input = e'.input) :
    requestFor scan e = requestFor scan e' := by
  simp only [requestFor, hcard, hinput]

/-- Two states that agree in what the law reads. -/
theorem ScanLaw.congr (h : ScanLaw s) (hop : t.op.state = s.op.state ∧ t.op.timer = s.op.timer)
    (hscan : t.input.scan = s.input.scan ∧ t.input.scanNumber = s.input.scanNumber ∧ t.input.due = s.input.due
      ∧ t.input.outstanding = s.input.outstanding)
    (hchannels : ∀ c : ChannelNo, t.input.channels[c].card = s.input.channels[c].card
      ∧ t.input.channels[c].input = s.input.channels[c].input)
    (hcards : ∀ k : CardNo, t.input.cards[k].lostInScan = s.input.cards[k].lostInScan)
    (hmap : t.map = s.map) : ScanLaw t := by
  obtain ⟨hpart, hwaiting, hstopped⟩ := scanLaw_iff.1 h
  obtain ⟨hstate, htimer⟩ := hop
  obtain ⟨hscan, hnumber, hdue, hout⟩ := hscan
  refine scanLaw_iff.2 ⟨?_, by rwa [hmap], by rwa [hmap, hstate]⟩
  cases hs : s.input.scan with
  | idle =>
    rw [scanPart_idle (hscan.trans hs), NoneAwaited, hstate, htimer, hdue, hout]
    exact (scanPart_idle hs).1 hpart
  | waiting =>
    rw [scanPart_waiting (hscan.trans hs), NoneAwaited, hstate, htimer, hdue, hout]
    exact (scanPart_waiting hs).1 hpart
  | scanning scan =>
    obtain ⟨hrun, htimer', hnumber', horder, hunread, c, rest, o, hr, ho, hlost, hrequest⟩ := (scanPart_scanning hs).1 hpart
    refine (scanPart_scanning (hscan.trans hs)).2 ⟨by rw [hstate, hrun], by rwa [htimer], by rwa [hnumber], horder,
      hunread, c, rest, o, hr, by rw [hout, ho], ?_, fun ha => ?_⟩
    · rw [hcards]
      simpa only [(hchannels c).1] using hlost
    · rw [hrequest ha]
      exact (requestFor_congr scan (hchannels c).1 (hchannels c).2).symm

/-- The scan work aborted and the operating state left: no scan is open and none awaited. -/
theorem scanPart_aborted (hscan : t.input.scan = .idle) (hdue : t.input.due = false)
    (hout : t.input.outstanding = s.abortScan.input.outstanding) (htimer : t.op.timer = none)
    (hstate : t.op.state ≠ .running) : ScanPart t :=
  (scanPart_idle hscan).2 ⟨hstate, htimer, hdue, by
    rw [NoneAwaited, hout]
    exact noneAwaited_abortScan s⟩

theorem ScanLaw.stopped (s : State) : ScanLaw (s.abortScan.abandonMap.setOpState .stopped) := by
  obtain ⟨hcomputing, hwaiting, hmarker⟩ := abandon_intake s.map
  refine scanLaw_iff.2 ⟨scanPart_aborted (s := s) rfl rfl rfl rfl
    (show OpState.stopped ≠ .running by decide), fun h => ?_, fun _ => ⟨hcomputing, hmarker⟩⟩
  exact absurd h (by
    rw [show (s.abortScan.abandonMap.setOpState .stopped).map.waiting = none from hwaiting]
    decide)

theorem ScanLaw.paused (h : ScanLaw s) : ScanLaw (s.abortScan.setOpState .paused) :=
  scanLaw_iff.2 ⟨scanPart_aborted (s := s) rfl rfl rfl rfl
    (show OpState.paused ≠ .running by decide), (scanLaw_iff.1 h).2.waiting,
    fun hstopped => (nomatch hstopped)⟩

theorem ScanLaw.restarted (s : State) : ScanLaw (s.abortScan.abandonMap.resetRun.restartRest.setOpState .stopped) :=
  scanLaw_iff.2 ⟨scanPart_aborted (s := s) rfl rfl rfl rfl
    (show OpState.stopped ≠ .running by decide), fun hw => (nomatch hw), fun _ => ⟨rfl, rfl⟩⟩

theorem ScanLaw.started (h : ScanLaw s) (hstate : s.op.state = .stopped) :
    ScanLaw (s.resetRun.setOpState .running).beginScan := by
  obtain ⟨-, hdue, hawaited⟩ := (scanLaw_iff.1 h).1.idle (by rw [hstate]; decide)
  exact RunOn.beginScan ⟨rfl, hawaited, fun hw => nomatch hw⟩ hdue

theorem ScanLaw.resumed (h : ScanLaw s) (hstate : s.op.state = .paused) :
    ScanLaw (State.setOpState { s with map := { s.map with resumeMarker := true } } .running).beginScan := by
  obtain ⟨hpart, hintake⟩ := scanLaw_iff.1 h
  obtain ⟨-, hdue, hawaited⟩ := hpart.idle (by rw [hstate]; decide)
  exact RunOn.beginScan ⟨rfl, hawaited, hintake.waiting⟩ hdue

/-- Every request's owner keeps the law. -/
theorem ScanLaw.served {code : ResultCode} (h : ScanLaw s) (hserved : Served k s code t) : ScanLaw t := by
  cases hserved with
  | started _ hstate => exact h.started hstate
  | stopped => exact .stopped s
  | paused => exact h.paused
  | resumed _ hstate => exact h.resumed hstate
  | restarted => exact .restarted s
  | channel _ c card input curve gain offset low high hstate =>
    obtain ⟨hpart, hintake⟩ := scanLaw_iff.1 h
    have hne : s.op.state ≠ .running := by rw [hstate]; decide
    obtain ⟨hidle, -, -⟩ := hpart.idle hne
    exact scanLaw_iff.2 ⟨(scanPart_idle (s := s.updChannel c _) hidle).2 ((scanPart_idle hidle).1 hpart), hintake.waiting, hintake.stopped⟩
  | enable _ c b =>
    refine h.congr ⟨rfl, rfl⟩ ⟨rfl, rfl, rfl, rfl⟩ (fun d => ?_) (fun _ => rfl) rfl
    rcases eq_or_ne d c with rfl | hne
    · simp [State.updChannel]
    · simp [State.updChannel, upd_get_ne _ _ _ _ _ (Fin.val_ne_of_ne hne)]
  | substitute _ k x =>
    refine h.congr ⟨rfl, rfl⟩ ⟨rfl, rfl, rfl, rfl⟩ (fun _ => ⟨rfl, rfl⟩) (fun j => ?_) rfl
    rcases eq_or_ne j k with rfl | hne
    · simp [State.updCard]
    · simp [State.updCard, upd_get_ne _ _ _ _ _ (Fin.val_ne_of_ne hne)]
  | _ => exact h

/-! ### Every step -/

theorem ScanLaw.setPort (h : ScanLaw s) (p : Port) (q : PortState) : ScanLaw (s.setPort p q) := by
  cases p <;> exact h

theorem ScanLaw.noteWrite (h : ScanLaw s) (p : Port) (k : RequestKind) (code : ResultCode) :
    ScanLaw (s.noteWrite p k code) := by
  unfold State.noteWrite
  split <;> exact h

theorem ScanLaw.portEffect {p : Port} (h : ScanLaw s) (he : PortEffect p s t) : ScanLaw t := by
  cases he with
  | unchanged => exact h
  | assembly => exact h.setPort p _
  | damaged => exact ScanLaw.setPort (s := s) h p _
  | refused => exact h.setPort p _
  | synced tag => exact (ScanLaw.noteWrite (s := s.setTimeTag tag) h p _ _).setPort p _
  | ended => exact h.setPort p _
  | served k pl => exact ((h.served (serveKind_served k p pl s)).noteWrite p _ _).setPort p _

theorem stateFlowClosed_scanLaw : StateFlowClosed ScanLaw where
  transit _ _ hs := hs
  draws _ _ hs := hs
  logged _ _ hs := hs
  arrived _ _ hs := hs

theorem ScanLaw.eventEffect (h : ScanLaw s) (he : EventEffect s t) : ScanLaw t := by
  cases he with
  | conversion sound card input emf burnout => exact h.conversionArrives sound card input emf burnout
  | coldJunction sound card temperature => exact h.coldJunctionArrives sound card temperature
  | expiry => exact h.answerPeriodExpires
  | timer => exact h.timerExpires
  | period =>
    unfold State.timeTagPeriod
    dsimp only
    split
    · exact stateFlowClosed_scanLaw.emit _ _ h
    · exact h
  | publication => exact h.publish

theorem scanLaw_afterReset (straps : Straps) (powerOn : Bool) (draws : Nat) (pending : List Instr) :
    ScanLaw (State.afterReset straps powerOn draws pending) :=
  scanLaw_iff.2 ⟨(scanPart_idle rfl).2 ⟨show OpState.stopped ≠ .running by decide, rfl, rfl,
    fun _ ho => (nomatch ho)⟩, fun hw => (nomatch hw),
    fun _ => ⟨rfl, rfl⟩⟩

theorem ScanLaw.supply (h : ScanLaw s) {i : Instr} (hi : i.isSupplyRow = true) (ht : exec i s = .next t) : ScanLaw t := by
  cases i <;> simp only [Instr.isSupplyRow, Bool.false_eq_true] at hi
  case powerOn straps => cases ht; exact scanLaw_afterReset straps true s.draws s.pending
  case resetPinAssert => cases ht; exact h
  case resetPinRelease straps =>
    obtain rfl := Host.Outcome.next.inj ht
    split
    · exact scanLaw_afterReset straps _ _ _
    · exact h
  case powerLoss => cases ht; exact h

/-- Settles O57: a step is an arrival, or a command, and each event and each owner of a request leaves a state of
the law. -/
theorem stepKeepsScanLaw : Obligations.StepKeepsScanLaw := by
  intro s t hs ht
  unfold step at ht
  split at ht
  · cases ht
    exact stateFlowClosed_scanLaw.idle _ hs
  next c rest _ =>
    have hs' : ScanLaw { s with pending := rest } := hs
    rcases exec_cases ht with hsupply | ⟨p, -, heffect⟩ | ⟨-, -, ⟨-, rfl⟩ | ⟨-, hevent⟩⟩
    · exact hs'.supply hsupply ht
    · exact hs'.portEffect heffect
    · exact hs'
    · exact hs'.eventEffect hevent

end Sys2Proof.Machine
end

section
/-! PROOF. The one rounding rule (00_scope 0.5, R56) and what it leaves between two bounds. -/

namespace Sys2Proof.Machine

variable {n d q lo hi a x : Int}

theorem roundDiv_eq_iff (hd : 0 < d) : roundDiv n d = q ↔ 2 * d * q - d ≤ 2 * n ∧ 2 * n < 2 * d * q + d := by
  have hcomm : q * (2 * d) = 2 * d * q := Int.mul_comm _ _
  rw [roundDiv, Int.ediv_eq_iff_of_pos (by omega), hcomm]
  omega

theorem le_roundDiv (hd : 0 < d) (h : lo * d ≤ n) : lo ≤ roundDiv n d := by
  have hdouble : lo * (2 * d) = 2 * (lo * d) := by ring
  exact Int.le_ediv_of_mul_le (by omega) (by omega)

theorem roundDiv_le (hd : 0 < d) (h : n ≤ hi * d) : roundDiv n d ≤ hi := by
  have hdouble : (hi + 1) * (2 * d) = 2 * (hi * d) + 2 * d := by ring
  exact Int.le_of_lt_add_one (Int.ediv_lt_of_lt_mul (by omega) (by omega))

theorem roundDiv_mul_self (hd : 0 < d) : roundDiv (a * d) d = a :=
  le_antisymm (roundDiv_le hd le_rfl) (le_roundDiv hd le_rfl)

/-- A part of a quantity, rounded, lies between nothing and the quantity. -/
theorem roundDiv_part_between (hd : 0 < d) (hx : 0 ≤ x) (hxd : x ≤ d) :
    min 0 a ≤ roundDiv (a * x) d ∧ roundDiv (a * x) d ≤ max 0 a := by
  rcases le_total 0 a with ha | ha
  · have hlow : 0 ≤ a * x := Int.mul_nonneg ha hx
    have hhigh : a * x ≤ a * d := Int.mul_le_mul_of_nonneg_left hxd ha
    rw [min_eq_left ha, max_eq_right ha]
    exact ⟨le_roundDiv hd (by omega), roundDiv_le hd hhigh⟩
  · have hlow : a * x ≤ 0 := Int.mul_nonpos_of_nonpos_of_nonneg ha hx
    have hhigh : a * d ≤ a * x := Int.mul_le_mul_of_nonpos_left ha hxd
    rw [min_eq_right ha, max_eq_left ha]
    exact ⟨le_roundDiv hd hhigh, roundDiv_le hd (by omega)⟩

theorem roundingIsToNearestHalfUp : RoundingIsToNearestHalfUp := fun _ _ _ hd => roundDiv_eq_iff hd

end Sys2Proof.Machine
end

section
/-! PROOF. Stages 2 to 6 of a computation (R83 to R91, R106, R107) and the statistics of a pass summary (R12). -/

namespace Sys2Proof.Machine

/-! ### Values between their sources (R56, R83, R86, R88) -/

theorem min_le_roundDiv_mean (a b : Int) : min a b ≤ roundDiv (a + b) 2 ∧ roundDiv (a + b) 2 ≤ max a b :=
  ⟨le_roundDiv (by decide) (by omega), roundDiv_le (by decide) (by omega)⟩

/-- A value moved by a part of the way to another lies between the two. -/
theorem moved_between {old new x d : Int} (hd : 0 < d) (hx : 0 ≤ x) (hxd : x ≤ d) :
    min old new ≤ old + roundDiv ((new - old) * x) d ∧ old + roundDiv ((new - old) * x) d ≤ max old new := by
  have hbetween := roundDiv_part_between (a := new - old) hd hx hxd
  omega

theorem estimatesMeansAndFilterStayBetween : EstimatesMeansAndFilterStayBetween := by
  refine ⟨fun i s j vi vj v his hsj hv => ?_, min_le_roundDiv_mean, fun weight old new f hlow hhigh hf => ?_⟩
  · obtain rfl := Option.some.inj hv
    exact moved_between (by omega) (by omega) (by omega)
  · obtain rfl : old + roundDiv ((new - old) * weight) 16 = f := by simpa [filterValue] using hf
    obtain ⟨hmin, hmax⟩ := moved_between (old := old) (new := new) (x := weight) (d := 16) (by decide)
      (by omega) (by omega)
    refine ⟨hmin, hmax, ?_⟩
    rintro rfl
    have hwhole : roundDiv ((new - old) * (16 : Nat)) 16 = new - old := roundDiv_mul_self (by decide)
    rw [hwhole]
    omega

/-! ### Stage 2 (R106, R107) -/

variable {zones : Vector ZoneRecord 8} {limitsChanged : Vector Bool 8} {i : CellIndex} {c : CellState}

/-- The zone covers the cell, zone 0 every cell. -/
def CoversCell (zones : Vector ZoneRecord 8) (i : CellIndex) (z : ZoneNo) : Prop :=
  z = 0 ∨ (zones[z].enabled = true ∧ zones[z].passes.getLsbD (passOf i).val = true
    ∧ zones[z].first ≤ stationOf i ∧ stationOf i ≤ zones[z].last)

theorem coversCell_iff {z : ZoneNo} (hz : z ≠ 0) : CoversCell zones i z ↔ covers zones i z = true := by
  simp [CoversCell, covers, hz, and_assoc]

theorem coversCell_governingZone : CoversCell zones i (governingZone zones i) := by
  unfold governingZone
  cases hfind : [7, 6, 5, 4, 3, 2, 1].find? fun z => covers zones i z with
  | none => exact .inl rfl
  | some z =>
    have hz : z ≠ 0 := by
      rintro rfl
      exact absurd (List.mem_of_find?_eq_some hfind) (by decide)
    exact (coversCell_iff hz).2 (List.find?_some hfind)

theorem mem_downward : ∀ z : ZoneNo, z ≠ 0 → z ∈ ([7, 6, 5, 4, 3, 2, 1] : List ZoneNo) := by decide

/-- Of the zones that cover a cell the highest-numbered governs it: the search runs downward. -/
theorem le_governingZone {z : ZoneNo} (h : CoversCell zones i z) : z ≤ governingZone zones i := by
  rcases eq_or_ne z 0 with rfl | hz
  · exact Fin.zero_le _
  have hcovers := (coversCell_iff hz).1 h
  have hmem := mem_downward z hz
  unfold governingZone
  cases hfind : [7, 6, 5, 4, 3, 2, 1].find? fun z => covers zones i z with
  | none => exact absurd hcovers (List.find?_eq_none.1 hfind z hmem)
  | some g =>
    obtain ⟨-, front, back, hlist, hfront⟩ := List.find?_eq_some_iff_append.1 hfind
    have hfall : (front ++ g :: back).Pairwise (· > ·) := hlist ▸ by decide
    obtain ⟨-, hback, -⟩ := List.pairwise_append.1 hfall
    rw [hlist, List.mem_append] at hmem
    rcases hmem with hmem | hmem
    · exact absurd hcovers (by simpa using hfront z hmem)
    · rcases List.mem_cons.1 hmem with rfl | hmem
      · exact le_refl _
      · exact le_of_lt ((List.pairwise_cons.1 hback).1 z hmem)

@[simp] theorem applyZone_zone : (applyZone zones limitsChanged i c).zone = governingZone zones i := by
  unfold applyZone
  dsimp only
  split <;> rfl

/-- A cell whose governing zone, or its edges and limits, changed starts its counters again (R107). -/
theorem applyZone_of_changed {z : ZoneNo} (hz : governingZone zones i = z) (h : z ≠ c.zone ∨ limitsChanged[z] = true) :
    applyZone zones limitsChanged i c = { c with zone := z, riseCount := 0, rateCount := 0, disagreeCount := 0 } := by
  subst hz
  exact if_pos (by simpa using h)

theorem applyZone_of_kept (hz : governingZone zones i = c.zone) (h : limitsChanged[c.zone] = false) :
    applyZone zones limitsChanged i c = c := by
  unfold applyZone
  simp only [hz, h]
  simp

theorem governingZoneStage : GoverningZoneStage := by
  intro zones limitsChanged i c d Covers
  have hzone : governingZone zones i = d.zone := applyZone_zone.symm
  refine ⟨?_, fun z hz => ?_, applyZone_of_changed hzone, fun hsame hkept => ?_⟩
  · exact (congrArg (CoversCell zones i) hzone).mp coversCell_governingZone
  · exact (le_governingZone hz).trans_eq hzone
  · exact applyZone_of_kept (hzone.trans hsame) (by simpa only [hsame] using hkept)

/-! ### Stage 3 (R83 to R85) -/

variable {allowance : Nat} {b : Binding} {readings : Vector Reading 96}

theorem resolveCell_of_source {src : Source} (h : cellSource b readings = some src) :
    resolveCell allowance b readings c =
      { c with
        quality := .good, resolved := some src.value, holdCount := 0
        flags := { c.flags with
          clamped := src.clamped, cjHeld := src.cjHeld, secondaryUsed := src.secondaryUsed } } := by
  rw [resolveCell, h]

/-- A cell without a source may be held: it has a primary, rests on a thermocouple and is within its allowance. -/
def MayHold (allowance : Nat) (b : Binding) (c : CellState) : Prop :=
  b.primary.isSome = true ∧ (c.quality = .good ∨ c.quality = .held) ∧ c.holdCount < allowance

theorem counted_iff : c.counted = true ↔ c.quality = .good ∨ c.quality = .held := by
  simp [CellState.counted]

theorem counted_eq_false_iff : c.counted = false ↔ c.quality ≠ .good ∧ c.quality ≠ .held := by
  simp [CellState.counted]

theorem resolveCell_of_hold (hnone : cellSource b readings = none) (h : MayHold allowance b c) :
    resolveCell allowance b readings c = { c with quality := .held, holdCount := c.holdCount + 1 } := by
  obtain ⟨hprimary, hquality, hcount⟩ := h
  rw [resolveCell, hnone]
  simp [hprimary, counted_iff.2 hquality, hcount]

theorem resolveCell_of_pass (hnone : cellSource b readings = none) (h : ¬ MayHold allowance b c) :
    resolveCell allowance b readings c = { c with quality := .void } := by
  rw [resolveCell, hnone]
  refine if_neg fun hall => h ?_
  simp only [Bool.and_eq_true, decide_eq_true_eq, counted_iff] at hall
  obtain ⟨⟨hprimary, hquality⟩, hcount⟩ := hall
  exact ⟨hprimary, hquality, hcount⟩

theorem sourceStage : SourceStage := by
  intro allowance b readings c d primary secondary rests
  have none_of {ch : Option ChannelNo} (h : ∀ r v, ¬ UsableFor readings ch r v) := usableReading_eq_none h
  have some_of {ch : Option ChannelNo} {r : Reading} {v : Int} (h : UsableFor readings ch r v) :=
    usableReading_eq_some_iff.2 h
  refine ⟨fun r v hp hs => ?_, fun q w hp hs => ?_, fun r v q w hp hs => ?_, fun hp hs => ?_⟩
  · exact resolveCell_of_source (by rw [cellSource, some_of hp, none_of hs])
  · exact resolveCell_of_source (by rw [cellSource, none_of hp, some_of hs])
  · have hsource : cellSource b readings = some (combineSources b.combine (v, r) (w, q)) := by
      rw [cellSource, some_of hp, some_of hs]
    have hd : d = _ := resolveCell_of_source hsource
    cases hcombine : b.combine with
    | primary => rw [hcombine] at hd; exact hd
    | mean => rw [hcombine] at hd; exact hd
    | higher =>
      rw [hcombine] at hd
      show if w ≤ v then rests v r.clamped r.cjHeld false else rests w q.clamped q.cjHeld false
      split
      next hle => simpa [combineSources, hle, sourceOf] using hd
      next hlt => simpa [combineSources, hlt, sourceOf] using hd
  · have hnone : cellSource b readings = none := by rw [cellSource, none_of hp, none_of hs]
    refine ⟨fun hhold => resolveCell_of_hold hnone hhold, fun hpass => ?_⟩
    have hd : d = { c with quality := .void } := resolveCell_of_pass hnone hpass
    rw [hd]
    exact ⟨rfl, rfl⟩

/-! ### Stage 4 (R86, R87) -/

variable {passes : Vector PassEntry 4} {cells : Vector CellState 128} {p : PassNo} {s t : Station} {v w : Int}

theorem anchorValue_eq_some_iff : anchorValue passes cells p t = some v ↔ AnchorAt passes cells p t v := by
  unfold anchorValue AnchorAt
  dsimp only
  rw [Option.ite_none_right_eq_some, Bool.and_eq_true, counted_iff, and_assoc]

/-- The first element of a strictly ordered list with an image is the one that stands before all others with one. -/
theorem findSome?_eq_of_first {α β : Type} {R : α → α → Prop} {f : α → Option β} {x : β} {a : α} :
    ∀ {l : List α}, l.Pairwise R → a ∈ l → f a = some x → (∀ y ∈ l, f y ≠ none → ¬ R y a) → l.findSome? f = some x
  | y :: l, hl, ha, hx, hfirst => by
    rw [List.findSome?_cons]
    rcases List.mem_cons.1 ha with rfl | hmem
    · rw [hx]
    · have hy : f y = none := by
        by_contra hne
        exact hfirst y (List.mem_cons_self ..) hne ((List.pairwise_cons.1 hl).1 a hmem)
      rw [hy]
      exact findSome?_eq_of_first (List.pairwise_cons.1 hl).2 hmem hx fun z hz => hfirst z (List.mem_cons_of_mem _ hz)

theorem anchor_of_ne_none {u : Station} (h : (anchorValue passes cells p u).map (fun v => ((u.val : Int), v)) ≠ none) :
    ∃ v, AnchorAt passes cells p u v := by
  obtain ⟨x, hx⟩ := Option.ne_none_iff_exists'.1 h
  obtain ⟨v, hv, -⟩ := Option.map_eq_some_iff.1 hx
  exact ⟨v, anchorValue_eq_some_iff.1 hv⟩

theorem anchorBelow_of_nearest (h : NearestBelow passes cells p s t v) :
    anchorBelow passes cells p s = some ((t.val : Int), v) := by
  obtain ⟨hat, hlt, hnearest⟩ := h
  refine findSome?_eq_of_first (R := (· > ·)) (a := t) ?_ ?_ ?_ fun u hu hne hgt => ?_
  · exact List.pairwise_reverse.2 ((List.pairwise_lt_finRange 32).filter _)
  · simpa using hlt
  · rw [anchorValue_eq_some_iff.2 hat, Option.map_some]
  · obtain ⟨x, hx⟩ := anchor_of_ne_none hne
    have hus : u < s := by simpa using hu
    exact absurd (hnearest u x hx hus) (not_le_of_gt hgt)

theorem anchorAbove_of_nearest (h : NearestAbove passes cells p s t v) :
    anchorAbove passes cells p s = some ((t.val : Int), v) := by
  obtain ⟨hat, hlt, hnearest⟩ := h
  refine findSome?_eq_of_first (R := (· < ·)) (a := t) ?_ ?_ ?_ fun u hu hne hult => ?_
  · exact (List.pairwise_lt_finRange 32).filter _
  · simpa using hlt
  · rw [anchorValue_eq_some_iff.2 hat, Option.map_some]
  · obtain ⟨x, hx⟩ := anchor_of_ne_none hne
    have hsu : s < u := by simpa using hu
    exact absurd (hnearest u x hx hsu) (not_le_of_gt hult)

theorem anchorBelow_none (h : ∀ t v, AnchorAt passes cells p t v → ¬ t < s) : anchorBelow passes cells p s = none := by
  refine List.findSome?_eq_none_iff.2 fun u hu => ?_
  by_contra hne
  obtain ⟨x, hx⟩ := anchor_of_ne_none hne
  exact h u x hx (by simpa using hu)

theorem anchorAbove_none (h : ∀ t v, AnchorAt passes cells p t v → ¬ s < t) : anchorAbove passes cells p s = none := by
  refine List.findSome?_eq_none_iff.2 fun u hu => ?_
  by_contra hne
  obtain ⟨x, hx⟩ := anchor_of_ne_none hne
  exact h u x hx (by simpa using hu)

theorem estimateCell_of_counted (h : c.counted = true) : estimateCell passes cells i c = c := if_pos h

/-- A cell that is not counted takes the estimate from its anchors, whatever it is. -/
theorem estimateCell_of_not_counted (h : c.counted = false) {below above : Option (Int × Int)} {e : Option Int}
    (hbelow : anchorBelow passes cells (passOf i) (stationOf i) = below)
    (habove : anchorAbove passes cells (passOf i) (stationOf i) = above)
    (he : estimate (stationOf i).val below above = e) :
    estimateCell passes cells i c =
      { c with
        quality := if e.isSome then .estimated else .void
        resolved := e
        flags := { c.flags with clamped := false, cjHeld := false, secondaryUsed := false } } := by
  rw [estimateCell, h]
  simp only [Bool.false_eq_true, if_false, hbelow, habove, he]

theorem estimationStage : EstimationStage := by
  intro passes cells i c d p s becomes
  refine ⟨estimateCell_of_counted, fun hc => ⟨fun x v y w hx hy => ?_, fun x v hx hnone => ?_, fun y w hy hnone => ?_,
    fun hnone => ?_⟩⟩
  · exact estimateCell_of_not_counted hc (anchorBelow_of_nearest hx) (anchorAbove_of_nearest hy) rfl
  · exact estimateCell_of_not_counted hc (anchorBelow_of_nearest hx)
      (anchorAbove_none fun t u ht => not_lt_of_ge (hnone t u ht)) rfl
  · exact estimateCell_of_not_counted hc (anchorBelow_none fun t u ht => not_lt_of_ge (hnone t u ht))
      (anchorAbove_of_nearest hy) rfl
  · exact estimateCell_of_not_counted hc (anchorBelow_none fun t u ht => by rw [hnone t u ht]; exact lt_irrefl _)
      (anchorAbove_none fun t u ht => by rw [hnone t u ht]; exact lt_irrefl _) rfl

/-! ### Stages 5 and 6 (R88, R90, R91) -/

theorem filterAndPeakStages : FilterAndPeakStages := by
  intro x released clear weight timeTag y k
  refine ⟨rfl, fun hnone => ?_, fun new hnew hstart => ?_, fun new old hnew hreleased hold => ?_, fun hclear hcounted => ?_,
    fun hclear hcounted => ?_, fun hclear hcounted => ?_, fun f hclear hcounted hf => ⟨fun hpeak => ?_, fun p hpeak => ?_⟩⟩
  · simp [y, filterCell, hnone, filterValue]
  · rcases hstart with rfl | hold
    · cases hold : x.filtered <;> simp [y, filterCell, hnew, hold, filterValue]
    · simp [y, filterCell, hnew, hold, filterValue]
  · simp [y, filterCell, hnew, hold, hreleased, filterValue]
  · simp [k, peakCell, hclear, hcounted]
  · simp [k, peakCell, hclear, hcounted]
  · simp [k, peakCell, hclear, hcounted]
  · simp [k, peakCell, hclear, hcounted, hpeak, hf, abovePeak]
  · simp [k, peakCell, hclear, hcounted, hpeak, hf, abovePeak]

/-! ### The stages one after another (R77) -/

variable {m : MapEngine} {comp : Computation}

theorem onPresent_get (f : CellIndex → CellState → CellState) :
    (onPresent passes f cells)[i] = if isPresent passes i = true then f i cells[i] else cells[i] := by
  rw [onPresent, Fin.getElem_fin, tab_get]

theorem stage2_get (h : isPresent m.passes i = true) :
    (stage2 m comp)[i] = applyZone m.zones comp.limitsChanged i m.cells[i] := by
  rw [stage2, onPresent_get, if_pos h]

theorem stage3_get (h : isPresent m.passes i = true) {zoned : CellState} (hzoned : (stage2 m comp)[i] = zoned) :
    (stage3 m comp)[i] = resolveCell m.zones[zoned.zone].holdAllowance m.bindings[i]
      comp.source.image.readings zoned := by
  subst hzoned
  rw [stage3, onPresent_get, if_pos h]

theorem stage4_get (h : isPresent m.passes i = true) {resolved : CellState} (hresolved : (stage3 m comp)[i] = resolved) :
    (stage4 m comp)[i] = estimateCell m.passes (stage3 m comp) i resolved := by
  subst hresolved
  rw [stage4, onPresent_get, if_pos h]

theorem computedCells_get (h : isPresent m.passes i = true) {x : CellState} (hx : (stage4 m comp)[i] = x) :
    (computedCells m comp)[i] = finishCell m comp i x := by
  subst hx
  rw [computedCells, onPresent_get, if_pos h]

theorem computedCells_get_absent (h : isPresent m.passes i = false) : (computedCells m comp)[i] = m.cells[i] := by
  have habsent : ¬ isPresent m.passes i = true := by rw [h]; decide
  simp only [computedCells, stage4, stage3, stage2, onPresent_get, if_neg habsent]

theorem stagesFollowOneAnother : StagesFollowOneAnother := by
  intro m c i zoned resolved x h hzoned hresolved hx
  have hstage3 := (stage3_get h ((stage2_get h).trans hzoned)).trans hresolved
  exact ⟨hstage3, computedCells_get h ((stage4_get h hstage3).trans hx)⟩

/-! ### The statistics (R12) -/

@[simp] theorem passOf_cellAt (p : PassNo) (t : Station) : passOf (cellAt p t) = p := by
  have := t.isLt
  exact Fin.ext (show (p.val * 32 + t.val) / 32 = p.val by omega)

@[simp] theorem stationOf_cellAt (p : PassNo) (t : Station) : stationOf (cellAt p t) = t := by
  have := t.isLt
  exact Fin.ext (show (p.val * 32 + t.val) % 32 = t.val by omega)

theorem isPresent_cellAt (passes : Vector PassEntry 4) (p : PassNo) (t : Station) :
    isPresent passes (cellAt p t) = decide (t.val < passes[p].stations) := by
  rw [isPresent, stationOf_cellAt]
  simp only [passOf_cellAt]

theorem mem_countedCells {f : Int} : (t, f) ∈ countedCells passes cells p ↔ CountedAt passes cells p t f := by
  simp only [countedCells, CountedAt, List.mem_filterMap, List.mem_finRange, true_and,
    Option.ite_none_right_eq_some, Bool.and_eq_true, counted_iff, Option.map_eq_some_iff, Prod.mk.injEq]
  constructor
  · rintro ⟨u, ⟨hpresent, hcounted⟩, x, hx, rfl, rfl⟩
    exact ⟨hpresent, hcounted, hx⟩
  · rintro ⟨hpresent, hcounted, hx⟩
    exact ⟨t, ⟨hpresent, hcounted⟩, f, hx, rfl, rfl⟩

theorem countedCells_pairwise : (countedCells passes cells p).Pairwise fun x y => x.1 < y.1 := by
  refine List.Pairwise.filterMap _ (fun t u htu x hx y hy => ?_) (List.pairwise_lt_finRange 32)
  have station_of : ∀ {t : Station} {x : Station × Int}, (if isPresent passes (cellAt p t) && cells[cellAt p t].counted
      then cells[cellAt p t].filtered.map fun f => (t, f) else none) = some x → x.1 = t := by
    intro t x hx
    split at hx
    · obtain ⟨f, -, rfl⟩ := Option.map_eq_some_iff.1 hx
      rfl
    · cases hx
  rw [station_of hx, station_of hy]
  exact htu

/-- The fold that keeps the best so far ends at the first of the best by the key. -/
theorem foldl_first_best (key : Station × Int → Int) : ∀ {l : List (Station × Int)} {x r : Station × Int},
    (x :: l).Pairwise (fun y z => y.1 < z.1) → l.foldl (fun best y => if key best < key y then y else best) x = r →
    r ∈ x :: l ∧ ∀ y ∈ x :: l, key y ≤ key r ∧ (key y = key r → r.1 ≤ y.1)
  | [], x, r, _, hr => by
    subst hr
    simp
  | y :: l, x, r, hl, hr => by
    obtain ⟨hx, hrest⟩ := List.pairwise_cons.1 hl
    rw [List.foldl_cons] at hr
    split at hr
    next hlt =>
      obtain ⟨hmem, hbest⟩ := foldl_first_best key hrest hr
      refine ⟨List.mem_cons_of_mem _ hmem, fun z hz => ?_⟩
      rcases List.mem_cons.1 hz with rfl | hz
      · have hy := (hbest y (List.mem_cons_self ..)).1
        omega
      · exact hbest z hz
    next hge =>
      obtain ⟨hmem, hbest⟩ := foldl_first_best key (hl.sublist (by simp)) hr
      obtain ⟨hxr, hfirst⟩ := hbest x (List.mem_cons_self ..)
      refine ⟨?_, fun z hz => ?_⟩
      · rcases List.mem_cons.1 hmem with rfl | hmem
        · exact List.mem_cons_self ..
        · exact List.mem_cons_of_mem _ (List.mem_cons_of_mem _ hmem)
      · rcases List.mem_cons.1 hz with rfl | hz
        · exact hbest _ (List.mem_cons_self ..)
        rcases List.mem_cons.1 hz with rfl | hz
        · exact ⟨by omega, fun heq => (hfirst (by omega)).trans (hx _ (List.mem_cons_self ..)).le⟩
        · exact hbest z (List.mem_cons_of_mem _ hz)

theorem hottest_is_first_hottest {l : List (Station × Int)} {x : Station × Int}
    (hl : (x :: l).Pairwise fun y z => y.1 < z.1) :
    ∃ r, hottest (x :: l) = some r ∧ r ∈ x :: l ∧ ∀ y ∈ x :: l, y.2 ≤ r.2 ∧ (y.2 = r.2 → r.1 ≤ y.1) :=
  ⟨_, rfl, foldl_first_best Prod.snd hl rfl⟩

theorem coolest_is_first_coolest {l : List (Station × Int)} {x : Station × Int}
    (hl : (x :: l).Pairwise fun y z => y.1 < z.1) :
    ∃ r, coolest (x :: l) = some r ∧ r ∈ x :: l ∧ ∀ y ∈ x :: l, r.2 ≤ y.2 ∧ (y.2 = r.2 → r.1 ≤ y.1) := by
  obtain ⟨hmem, hbest⟩ := foldl_first_best (fun y => -y.2) hl rfl
  simp only [neg_lt_neg_iff, neg_le_neg_iff, neg_inj] at hmem hbest
  exact ⟨_, rfl, hmem, hbest⟩

theorem countedCells_eq_nil (h : ∀ t f, ¬ CountedAt passes cells p t f) : countedCells passes cells p = [] :=
  List.eq_nil_iff_forall_not_mem.2 fun x hx => h x.1 x.2 (mem_countedCells.1 hx)

/-- The counted values of a pass in station order (R12). -/
theorem countedCells_values : (countedCells passes cells p).map Prod.snd =
    (List.finRange 32).filterMap fun t =>
      if isPresent passes (cellAt p t) = true
          ∧ (cells[cellAt p t].quality = .good ∨ cells[cellAt p t].quality = .held) then
        cells[cellAt p t].filtered
      else none := by
  rw [countedCells, List.map_filterMap]
  refine List.filterMap_congr fun t _ => ?_
  simp only [Bool.and_eq_true, counted_iff]
  split
  · rw [Option.map_map]
    exact Option.map_id'
  · rfl

theorem countP_present : ∀ n ≤ 32, (List.finRange 32).countP (fun t => decide (t.val < n)) = n := by decide

/-- Whatever is present has one of the four qualities. -/
theorem countP_qualities (present : Station → Bool) (quality : Station → Quality) (l : List Station) :
    let number q := l.countP fun t => present t && quality t == q
    number .good + number .held + number .estimated + number .void = l.countP present := by
  induction l with
  | nil => rfl
  | cons t l ih =>
    simp only [List.countP_cons] at ih ⊢
    rw [← ih]
    cases present t with
    | false => simp
    | true => cases quality t <;> simp <;> omega

theorem qualityCount_sum (h : passes[p].stations ≤ 32) :
    qualityCount passes cells p .good + qualityCount passes cells p .held + qualityCount passes cells p .estimated
      + qualityCount passes cells p .void = passes[p].stations := by
  have hsum := countP_qualities (fun t => isPresent passes (cellAt p t)) (fun t => cells[cellAt p t].quality)
    (List.finRange 32)
  have hpresent := countP_present _ h
  simp only [isPresent_cellAt] at hsum
  simp only [qualityCount, isPresent_cellAt]
  exact hsum.trans hpresent

theorem summaryStatistics : SummaryStatistics := by
  intro passes cells image flag p x counted number
  refine ⟨fun hnone => ?_, fun ⟨t, f, hf⟩ => ?_, rfl, rfl, rfl, rfl, qualityCount_sum⟩
  · simp only [x, summaryOf, countedCells_eq_nil hnone]
    exact ⟨rfl, rfl, rfl, rfl, rfl, rfl⟩
  · have hmem := mem_countedCells.2 hf
    have hordered := countedCells_pairwise (passes := passes) (cells := cells) (p := p)
    have hvalues := countedCells_values (passes := passes) (cells := cells) (p := p)
    simp only [x, summaryOf]
    obtain ⟨y, l, hl⟩ := List.exists_cons_of_ne_nil (List.ne_nil_of_mem hmem)
    rw [hl] at hordered hvalues ⊢
    obtain ⟨⟨h, hv⟩, hhot, hhotmem, hhottest⟩ := hottest_is_first_hottest hordered
    obtain ⟨⟨c, cv⟩, hcool, hcoolmem, hcoolest⟩ := coolest_is_first_coolest hordered
    rw [hhot, hcool]
    rw [← hl] at hhotmem hcoolmem hhottest hcoolest
    refine ⟨h, c, hv, cv, _, _, rfl, rfl, mem_countedCells.1 hhotmem, fun t f hf => ?_, rfl, rfl, mem_countedCells.1 hcoolmem,
      fun t f hf => ?_, hvalues, rfl, by rw [List.length_map], rfl⟩
    · exact hhottest (t, f) (mem_countedCells.2 hf)
    · exact hcoolest (t, f) (mem_countedCells.2 hf)

/-- Settles O42. -/
theorem roundingAndMeans : Obligations.RoundingAndMeans :=
  ⟨roundingIsToNearestHalfUp, estimatesMeansAndFilterStayBetween, governingZoneStage, sourceStage, estimationStage,
    filterAndPeakStages, stagesFollowOneAnother, summaryStatistics⟩

end Sys2Proof.Machine
end

section
/-! PROOF. The map's law (R9, R10, R90): a computation carries its cells from the law to the law, stage by stage, and no other update touches the published map or the working states of a run. -/

namespace Sys2Proof.Machine

variable {c d : CellState} {z : ZoneRecord} {b : Binding} {image : ScanImage} {held released : Bool}

/-! ### What a stage leaves unchanged -/

/-- Two cells alike in quality, values, band and peak. -/
def SameValues (c d : CellState) : Prop :=
  d.quality = c.quality ∧ d.resolved = c.resolved ∧ d.filtered = c.filtered ∧ d.band = c.band ∧ d.peak = c.peak

theorem sameValues_applyZone (zones : Vector ZoneRecord 8) (limitsChanged : Vector Bool 8) (i : CellIndex)
    (c : CellState) : SameValues c (applyZone zones limitsChanged i c) := by
  unfold applyZone
  dsimp only
  split <;> exact ⟨rfl, rfl, rfl, rfl, rfl⟩

/-- Two cells alike in filtered value, band and peak: stages 3 and 4 move quality, resolved value, hold count and
flags alone. -/
def SameHistory (c d : CellState) : Prop := d.filtered = c.filtered ∧ d.band = c.band ∧ d.peak = c.peak

theorem SameHistory.trans {e : CellState} (h : SameHistory c d) (h' : SameHistory d e) : SameHistory c e := by
  obtain ⟨hfiltered, hband, hpeak⟩ := h
  obtain ⟨hfiltered', hband', hpeak'⟩ := h'
  exact ⟨hfiltered'.trans hfiltered, hband'.trans hband, hpeak'.trans hpeak⟩

theorem sameHistory_resolveCell (allowance : Nat) (b : Binding) (readings : Vector Reading 96) (c : CellState) :
    SameHistory c (resolveCell allowance b readings c) := by
  unfold resolveCell
  split
  · exact ⟨rfl, rfl, rfl⟩
  · split <;> exact ⟨rfl, rfl, rfl⟩

theorem sameHistory_estimateCell (passes : Vector PassEntry 4) (cells : Vector CellState 128) (i : CellIndex)
    (c : CellState) : SameHistory c (estimateCell passes cells i c) := by
  unfold estimateCell
  split <;> exact ⟨rfl, rfl, rfl⟩

/-! ### Quality and values through stages 3 to 6 -/

/-- A counted cell has a resolved value. -/
def CountedResolved (c : CellState) : Prop := c.counted = true → c.resolved.isSome = true

theorem countedResolved_of_void_iff (h : c.quality = .void ↔ c.resolved = none) : CountedResolved c := by
  intro hcounted
  rw [Option.isSome_iff_ne_none]
  exact fun hnone => absurd (h.2 hnone) (by rcases counted_iff.1 hcounted with hq | hq <;> rw [hq] <;> decide)

theorem CountedResolved.resolveCell (h : CountedResolved c) (allowance : Nat) (readings : Vector Reading 96) :
    CountedResolved (resolveCell allowance b readings c) := by
  cases hsource : cellSource b readings with
  | some src =>
    rw [resolveCell_of_source hsource]
    exact fun _ => rfl
  | none =>
    by_cases hhold : MayHold allowance b c
    · rw [resolveCell_of_hold hsource hhold]
      exact fun _ => h (counted_iff.2 hhold.2.1)
    · rw [resolveCell_of_pass hsource hhold]
      exact fun hvoid => (nomatch hvoid)

/-- After stage 4 a cell is VOID just where it has no resolved value. -/
theorem estimateCell_void_iff (h : CountedResolved c) (passes : Vector PassEntry 4) (cells : Vector CellState 128)
    (i : CellIndex) :
    (estimateCell passes cells i c).quality = .void ↔ (estimateCell passes cells i c).resolved = none := by
  cases hcounted : c.counted with
  | true =>
    rw [estimateCell_of_counted hcounted]
    have hresolved := Option.isSome_iff_ne_none.1 (h hcounted)
    exact ⟨fun hvoid => absurd hcounted (by simp [CellState.counted, hvoid]), fun hnone => absurd hnone hresolved⟩
  | false =>
    rw [estimateCell_of_not_counted hcounted rfl rfl rfl]
    cases estimate (stationOf i).val (anchorBelow passes cells (passOf i) (stationOf i))
      (anchorAbove passes cells (passOf i) (stationOf i)) <;> simp

theorem filterValue_eq_none_iff {weight : Nat} {prev resolved : Option Int} :
    filterValue released weight prev resolved = none ↔ resolved = none := by
  cases resolved <;> cases prev <;> simp [filterValue]
  split <;> simp

@[simp] theorem peakCell_quality (clear : Bool) (tag : Word32) (c : CellState) : (peakCell clear tag c).quality = c.quality := by
  unfold peakCell
  (repeat' split) <;> rfl

@[simp] theorem peakCell_resolved (clear : Bool) (tag : Word32) (c : CellState) :
    (peakCell clear tag c).resolved = c.resolved := by
  unfold peakCell
  (repeat' split) <;> rfl

@[simp] theorem peakCell_filtered (clear : Bool) (tag : Word32) (c : CellState) :
    (peakCell clear tag c).filtered = c.filtered := by
  unfold peakCell
  (repeat' split) <;> rfl

@[simp] theorem peakCell_prevFiltered (clear : Bool) (tag : Word32) (c : CellState) :
    (peakCell clear tag c).prevFiltered = c.prevFiltered := by
  unfold peakCell
  (repeat' split) <;> rfl

@[simp] theorem peakCell_band (clear : Bool) (tag : Word32) (c : CellState) : (peakCell clear tag c).band = c.band := by
  unfold peakCell
  (repeat' split) <;> rfl

/-- A counted cell with a filtered value has a peak that is not below it (R90, R91). -/
theorem peakCell_peak {f : Int} (hcounted : c.counted = true) (hf : c.filtered = some f) (clear : Bool) (tag : Word32) :
    ∃ p, (peakCell clear tag c).peak = some p ∧ f ≤ p := by
  unfold peakCell
  rw [hcounted]
  cases clear with
  | true => exact ⟨f, hf, le_refl _⟩
  | false =>
    cases hpeak : c.peak with
    | none => exact ⟨f, by simp [abovePeak, hf], le_refl _⟩
    | some p =>
      by_cases hlt : p < f
      · exact ⟨f, by simp [abovePeak, hf, hlt], le_refl _⟩
      · exact ⟨p, by simp [abovePeak, hf, hlt, hpeak], not_lt.1 hlt⟩

/-- Quality and values of a cell as stage 6 leaves them: the law but for the band. -/
def ValueLaw (c : CellState) : Prop :=
  (c.quality = .void ↔ c.filtered = none) ∧ (c.quality = .void ↔ c.resolved = none)
  ∧ (c.quality = .good → ∃ f p, c.filtered = some f ∧ c.peak = some p ∧ f ≤ p)

theorem valueLaw_filtered (h : c.quality = .void ↔ c.resolved = none) (clear : Bool) (tag : Word32) (weight : Nat) :
    ValueLaw (peakCell clear tag (filterCell released weight c)) := by
  have hfilter : (filterCell released weight c).filtered = none ↔ c.resolved = none := filterValue_eq_none_iff
  rw [ValueLaw, peakCell_quality, peakCell_filtered, peakCell_resolved, hfilter]
  refine ⟨h, h, fun hgood => ?_⟩
  obtain ⟨f, hf⟩ := Option.ne_none_iff_exists'.1 fun hnone =>
    absurd (h.2 (hfilter.1 hnone)) (by rw [show c.quality = .good from hgood]; decide)
  obtain ⟨p, hp, hle⟩ := peakCell_peak (counted_iff.2 (.inl hgood)) hf clear tag
  exact ⟨f, p, hf, hp, hle⟩

/-! ### The band through stage 7 -/

theorem candidateBand_ne_held (z : ZoneRecord) (f : Int) : candidateBand z f ≠ .held := by
  unfold candidateBand
  (repeat' split) <;> decide

theorem fallBand_ne_held (z : ZoneRecord) (f : Int) (b : Band) : fallBand z f b ≠ .held := by
  unfold fallBand
  (repeat' split) <;> decide

theorem riseOrFall_ne_held {band : Band} (h : band ≠ .held) (f : Int) (rise : Nat) :
    (riseOrFall z f band rise).1 ≠ .held := by
  unfold riseOrFall
  dsimp only
  split
  · split
    · exact candidateBand_ne_held z f
    · exact h
  · exact fallBand_ne_held z f band

theorem capBand_ne_held (q : Quality) {band : Band} (h : band ≠ .held) : capBand q band ≠ .held := by
  unfold capBand
  split
  · decide
  · exact h

theorem capBand_estimated (band : Band) : capBand .estimated band ≠ .alarm ∧ capBand .estimated band ≠ .limit := by
  cases band <;> decide

/-- Stage 7 works on the band, the checks and the marker alone (R108). -/
theorem classifyCell_frame (held released : Bool) (z : ZoneRecord) (b : Binding) (image : ScanImage) (c : CellState) :
    let d := classifyCell held released z b image c
    d.quality = c.quality ∧ d.resolved = c.resolved ∧ d.filtered = c.filtered ∧ d.peak = c.peak
      ∧ d.prevFiltered = c.prevFiltered := by
  unfold classifyCell
  dsimp only
  (repeat' split) <;> exact ⟨rfl, rfl, rfl, rfl, rfl⟩

/-- The band that stage 7 gives: HELD in a held pass, NORMAL to a VOID cell, and else one that is not HELD, capped
for an estimated cell. -/
theorem classifyCell_band (h : held = false → released = false → c.band ≠ .held) :
    let d := classifyCell held released z b image c
    (held = true ↔ d.band = .held) ∧ (c.quality = .estimated → d.band ≠ .alarm ∧ d.band ≠ .limit)
      ∧ (c.quality = .void → held = false → d.band = .normal) := by
  cases held with
  | true => exact ⟨by simp [classifyCell, clearedChecks], by simp [classifyCell, clearedChecks], fun _ hf => (nomatch hf)⟩
  | false =>
    have hstart : (if released then clearedChecks .normal c else c).band ≠ .held := by
      cases released
      · exact h rfl rfl
      · exact (show Band.normal ≠ .held by decide)
    have hquality : (if released then clearedChecks .normal c else c).quality = c.quality := by cases released <;> rfl
    by_cases hvoid : c.quality = .void
    · simp [classifyCell, clearedChecks, hvoid]
    · have hd : (classifyCell false released z b image c).band = (classifyValue z b image
          (if released then clearedChecks .normal c else c)).band := by simp [classifyCell, hvoid]
      dsimp only
      rw [hd]
      refine ⟨⟨fun hf => (nomatch hf), fun hheld => absurd hheld ?_⟩, fun hestimated => ?_, fun hv => absurd hv hvoid⟩
      · exact capBand_ne_held _ (riseOrFall_ne_held hstart _ _)
      · simp only [classifyValue, hquality, hestimated]
        exact capBand_estimated _

theorem cellLaw_classified (hvalue : ValueLaw c) (h : held = false → released = false → c.band ≠ .held) :
    CellLaw held (classifyCell held released z b image c) := by
  obtain ⟨hfiltered, hresolved, hgood⟩ := hvalue
  obtain ⟨hq, hr, hf, hp, -⟩ := classifyCell_frame held released z b image c
  obtain ⟨hheld, hestimated, hvoid⟩ := classifyCell_band (z := z) (b := b) (image := image) h
  exact ⟨by rwa [hq, hf], by rwa [hq, hr], hheld, by rwa [hq], by rwa [hq], by rwa [hq, hf, hp]⟩

/-! ### A computation past its latch -/

variable {m : MapEngine} {comp : Computation} {i : CellIndex}

/-- A cell that is VOID just where it has no resolved value, and whose band is HELD in a held or released pass alone,
leaves the computation within the law of its pass's held field. -/
theorem cellLaw_computed (hi : isPresent m.passes i = true)
    (hvoid : m.cells[i].quality = .void ↔ m.cells[i].resolved = none)
    (hband : m.passes[passOf i].held = false → comp.released[passOf i] = false → m.cells[i].band ≠ .held) :
    CellLaw m.passes[passOf i].held (computedCells m comp)[i] := by
  obtain ⟨zoned, hzoned⟩ : ∃ x, applyZone m.zones comp.limitsChanged i m.cells[i] = x := ⟨_, rfl⟩
  have hsame := sameValues_applyZone m.zones comp.limitsChanged i m.cells[i]
  rw [hzoned] at hsame
  obtain ⟨hquality, hresolved, -, hzonedBand, -⟩ := hsame
  have hcounted : CountedResolved zoned := countedResolved_of_void_iff (by rw [hquality, hresolved]; exact hvoid)
  have hstage3 := stage3_get hi ((stage2_get hi).trans hzoned)
  obtain ⟨x, hx⟩ : ∃ x, resolveCell m.zones[zoned.zone].holdAllowance m.bindings[i] comp.source.image.readings zoned = x :=
    ⟨_, rfl⟩
  rw [hx] at hstage3
  have hxcounted : CountedResolved x := hx ▸ hcounted.resolveCell _ _
  have hhistory := (sameHistory_resolveCell m.zones[zoned.zone].holdAllowance m.bindings[i] comp.source.image.readings
    zoned).trans (sameHistory_estimateCell m.passes (stage3 m comp) i _)
  rw [hx] at hhistory
  rw [computedCells_get hi (stage4_get hi hstage3)]
  obtain ⟨-, hestimatedBand, -⟩ := hhistory
  refine cellLaw_classified (valueLaw_filtered (estimateCell_void_iff hxcounted _ _ _) _ _ _) fun hheld hreleased => ?_
  rw [peakCell_band]
  exact (hestimatedBand.trans hzonedBand).trans_ne (hband hheld hreleased)

/-- The cells a computation makes of those it latched obey the law of their pass's held field. -/
theorem LatchedLaw.cellLaw_computedCells (h : LatchedLaw m comp) (hi : isPresent m.passes i = true) :
    CellLaw m.passes[passOf i].held (computedCells m comp)[i] := by
  obtain ⟨hsaved, hreleased⟩ := h
  obtain ⟨⟨-, hvoidResolved, hheld, -⟩, marker, hmarker⟩ := hsaved i hi
  refine cellLaw_computed hi (by rw [hmarker]; exact hvoidResolved) fun hfree hkept hband => ?_
  rw [hmarker] at hband
  rw [hreleased, hheld.2 hband, hfree] at hkept
  exact absurd hkept (by decide)

/-- The working states of the present cells obey the law. -/
def WorkingLaw (m : MapEngine) : Prop :=
  match m.computing with
  | none => ∀ i : CellIndex, isPresent m.passes i = true → CellLaw m.passes[passOf i].held m.cells[i]
  | some c => LatchedLaw m c

theorem workingLaw_none (h : m.computing = none) :
    WorkingLaw m ↔ ∀ i : CellIndex, isPresent m.passes i = true → CellLaw m.passes[passOf i].held m.cells[i] := by
  rw [WorkingLaw, h]

theorem workingLaw_some (h : m.computing = some comp) : WorkingLaw m ↔ LatchedLaw m comp := by
  rw [WorkingLaw, h]

/-- The present cells of the published map obey the law. -/
def PublishedLaw (m : PublishedMap) : Prop :=
  ∀ i : CellIndex, m.isPresent i = true → CellLaw m.summaries[passOf i].held m.cells[i]

variable {s t : State}

theorem mapLaw_iff : MapLaw s ↔ PublishedLaw s.map.published ∧ (s.op.state ≠ .stopped → WorkingLaw s.map) := .rfl

theorem startComputation_published (m : MapEngine) (image : MarkedImage) :
    (m.startComputation image).published = m.published := rfl

/-- The latch saves the cells and held fields that it finds, and moves the previous-valid marker alone. -/
theorem WorkingLaw.startComputation (h : WorkingLaw m) (hready : m.computing = none) (image : MarkedImage) :
    WorkingLaw (m.startComputation image) := by
  rw [workingLaw_none hready] at h
  obtain ⟨c, hc, -, -, hsavedCells, hsavedHeld, -⟩ := m.startComputation_computing image
  refine (workingLaw_some hc).2 ⟨fun i hi => ⟨?_, ?_⟩, fun p => ?_⟩
  · have hpresent : isPresent m.passes i = true := by
      rw [← hi, isPresent, isPresent, startComputation_pass]
    rw [hsavedCells, hsavedHeld]
    exact h i hpresent
  · rw [hsavedCells]
    cases hresume : image.resume with
    | false => exact ⟨m.cells[i].prevValid, by rw [startComputation_cells_of_not_resume hresume]⟩
    | true => exact ⟨false, startComputation_cell_of_resume hresume i⟩
  · rw [released_of_start hc, hsavedHeld, startComputation_pass]

theorem checkedPasses_get (m : MapEngine) (comp : Computation) (p : PassNo) :
    ∃ count flag, (checkedPasses m comp)[p] = { m.passes[p] with spreadCount := count, spreadFlag := flag } := by
  rw [checkedPasses, Fin.getElem_fin, tab_get]
  exact spreadCheck_frame _ _ _

theorem isPresent_checkedPasses : isPresent (checkedPasses m comp) i = isPresent m.passes i := by
  obtain ⟨_, _, hp⟩ := checkedPasses_get m comp (passOf i)
  rw [isPresent, isPresent, hp]

theorem completed_published_isPresent : (m.completed comp).published.isPresent i = isPresent m.passes i := by
  rw [PublishedMap.isPresent, isPresent, MapEngine.completed]
  dsimp only
  rw [publishedSummaries, Fin.getElem_fin, tab_get]
  rfl

theorem LatchedLaw.completed_published (h : LatchedLaw m comp) : PublishedLaw (m.completed comp).published := by
  intro i hi
  rw [completed_published_isPresent] at hi
  have hcell : (m.completed comp).published.cells[i] = (computedCells m comp)[i] := by
    rw [MapEngine.completed]
    dsimp only
    rw [Fin.getElem_fin, tab_get, if_pos hi]
  have hheld : (m.completed comp).published.summaries[passOf i].held = m.passes[passOf i].held := by
    rw [MapEngine.completed]
    dsimp only
    rw [publishedSummaries, Fin.getElem_fin, tab_get]
    rfl
  rw [hcell, hheld]
  exact h.cellLaw_computedCells hi

theorem LatchedLaw.completed_working (h : LatchedLaw m comp) : WorkingLaw (m.completed comp) := by
  refine (workingLaw_none rfl).2 fun i hi => ?_
  have hpresent : isPresent m.passes i = true := isPresent_checkedPasses.symm.trans hi
  obtain ⟨_, _, hp⟩ := checkedPasses_get m comp (passOf i)
  rw [show (m.completed comp).passes[passOf i] = _ from hp]
  exact h.cellLaw_computedCells hpresent

theorem WorkingLaw.takeWaiting (h : WorkingLaw m) (hready : m.computing = none) : WorkingLaw m.takeWaiting := by
  unfold MapEngine.takeWaiting
  split
  · exact h
  · exact WorkingLaw.startComputation (m := { m with waiting := none }) h hready _

theorem takeWaiting_published (m : MapEngine) : m.takeWaiting.published = m.published := by
  unfold MapEngine.takeWaiting
  split <;> rfl

theorem abandon_published (m : MapEngine) : m.abandon.published = m.published := by
  unfold MapEngine.abandon
  split <;> rfl

/-! ### Cells at their reset value -/

theorem cellLaw_reset : CellLaw false CellState.reset := by
  simp [CellLaw, CellState.reset]

theorem publishedLaw_cleared (passes : Vector PassEntry 4) : PublishedLaw (PublishedMap.cleared passes) := by
  intro i _
  have hheld : (PublishedMap.cleared passes).summaries[passOf i].held = false := by
    rw [PublishedMap.cleared]
    dsimp only
    rw [Fin.getElem_fin, tab_get]
    rfl
  rw [hheld, show (PublishedMap.cleared passes).cells[i] = CellState.reset from fill_get _ _ _]
  exact cellLaw_reset

theorem workingLaw_resetRun (m : MapEngine) : WorkingLaw m.resetRun := by
  refine (workingLaw_none rfl).2 fun i _ => ?_
  have hheld : m.resetRun.passes[passOf i].held = false := by
    rw [MapEngine.resetRun]
    dsimp only
    rw [Fin.getElem_fin, tab_get]
  rw [hheld, show m.resetRun.cells[i] = CellState.reset from fill_get _ _ _]
  exact cellLaw_reset

/-! ### Every step -/

namespace MapLaw

theorem imageArrives (h : MapLaw s) (image : ScanImage) : MapLaw (s.imageArrives image) := by
  cases hcomputing : s.map.computing with
  | none =>
    rw [imageArrives_of_ready hcomputing]
    obtain ⟨hpublished, hworking⟩ := mapLaw_iff.1 h
    exact mapLaw_iff.2 ⟨hpublished, fun hrun =>
      WorkingLaw.startComputation (m := { s.map with resumeMarker := false }) (hworking hrun) hcomputing _⟩
  | some c =>
    have hbusy : s.map.computing.isSome = true := by rw [hcomputing]; rfl
    cases hwaiting : s.map.waiting with
    | none =>
      rw [imageArrives_of_emptySlot hbusy hwaiting]
      exact h
    | some old =>
      rw [imageArrives_of_fullSlot hbusy hwaiting, MapLaw, State.emit_map, State.emit_op]
      exact h

/-- A publication in a run shows the computed cells and latches the waiting image's computation on them. -/
theorem publish (h : MapLaw s) (hrun : s.map.computing.isSome = true → s.op.state ≠ .stopped) : MapLaw s.publish := by
  unfold State.publish
  split
  · exact h
  next c hc =>
    have hlatched := (workingLaw_some hc).1 (h.2 (hrun (by rw [hc]; rfl)))
    rw [mapLaw_iff, State.send_map, State.send_op]
    dsimp only
    rw [takeWaiting_published]
    exact ⟨hlatched.completed_published, fun _ => hlatched.completed_working.takeWaiting rfl⟩

theorem stateFlowClosed : StateFlowClosed MapLaw where
  transit _ _ hs := hs
  draws _ _ hs := hs
  logged _ _ hs := hs
  arrived _ _ hs := hs

theorem eventClosed : EventClosed MapLaw where
  toStateFlowClosed := stateFlowClosed
  outstanding _ _ hs := hs
  asked _ _ hs := hs
  delivered s _ _ hs := imageArrives (s := s.setScan .waiting) hs _
  card _ _ _ _ hs := hs
  due _ _ hs := hs
  opened _ hs := hs
  reading s c r _ hs := by rwa [MapLaw, State.giveReading_map, State.giveReading_op]

theorem ownerClosed : OwnerClosed MapLaw where
  toEventClosed := eventClosed
  conditions _ hs := hs
  started s _ _ _ := mapLaw_iff.2 ⟨publishedLaw_cleared _, fun _ => workingLaw_resetRun s.map⟩
  stopped s hs := by
    refine mapLaw_iff.2 ⟨?_, fun hrun => absurd rfl hrun⟩
    rw [show (s.abortScan.abandonMap.setOpState .stopped).map.published = s.map.published from abandon_published s.map]
    exact hs.1
  paused s hstate hs := mapLaw_iff.2 ⟨hs.1, fun _ => hs.2 (by rw [hstate]; decide)⟩
  resumed s hstate hs := mapLaw_iff.2 ⟨hs.1, fun _ => hs.2 (by rw [hstate]; decide)⟩
  restarted s _ := mapLaw_iff.2 ⟨publishedLaw_cleared _, fun hrun => absurd rfl hrun⟩
  timeTag _ _ hs := hs
  resolution _ _ hs := hs
  interval _ _ _ _ hs := hs
  channel _ _ _ _ _ _ _ _ _ _ _ _ hs := hs
  enable _ _ _ _ hs := hs
  curve _ _ _ _ _ hs := hs
  substitute _ _ _ _ _ _ hs := hs
  pass _ _ _ _ hstate _ _ _ hs := mapLaw_iff.2 ⟨hs.1, fun hrun => absurd hstate hrun⟩
  binding _ _ _ _ _ _ hs := hs
  zone _ _ _ _ _ hs := hs
  hold _ _ _ hs := hs
  peaks _ _ hs := hs
  trend _ _ _ _ _ _ hs := hs
  logClear _ hs := hs
  taken _ _ hs := hs
  mask _ _ hs := hs
  unmask _ _ hs := hs
  level _ _ hs := hs
  permit _ _ _ _ hs := hs

theorem stepClosed : StepClosed MapLaw where
  toOwnerClosed := ownerClosed
  queue _ _ hs := hs
  port s p q hs := by rwa [MapLaw, State.setPort_map, State.setPort_op]
  frameError _ hs := hs
  maintWrite _ hs := hs
  supply _ _ _ hs := hs
  reset _ _ _ _ := mapLaw_iff.2 ⟨publishedLaw_cleared _, fun hrun => absurd rfl hrun⟩

end MapLaw

/-- Settles O58: a publication in a run carries the law through the stages of its computation, and every other part
of a step leaves the published map and a run's working states, sets them to their reset values, or latches them. A
computation past its latch is one of a run by the law of the scan. -/
theorem stepKeepsMapLaw : Obligations.StepKeepsMapLaw := by
  intro s t hscan hs ht
  refine MapLaw.stepClosed.step s t hs (fun rest h => h.publish fun hbusy hstopped => ?_) ht
  rw [((scanLaw_iff.1 hscan).2.stopped hstopped).1] at hbusy
  exact Bool.false_ne_true hbusy

end Sys2Proof.Machine
end

section
/-! PROOF. The temperatures' law (R8, R54, R65, R89): a conversion is limited to the channel's clamps, and each stage of a computation gives values between those it takes. -/

namespace Sys2Proof.Machine

/-! ### Optional temperatures -/

theorem inDeviceRange_none : InDeviceRange none := fun _ h => nomatch h

theorem inDeviceRange_some {v : Int} : InDeviceRange (some v) ↔ -500 ≤ v ∧ v ≤ 12000 :=
  ⟨fun h => h v rfl, fun h _ hv => Option.some.inj hv ▸ h⟩

/-- What lies between two temperatures of the device range lies in it. -/
theorem inDeviceRange_between {a b x : Int} (ha : InDeviceRange (some a)) (hb : InDeviceRange (some b))
    (h : min a b ≤ x ∧ x ≤ max a b) : InDeviceRange (some x) := by
  rw [inDeviceRange_some] at *
  omega

/-- The rounded mean of temperatures in the device range lies in it. -/
theorem inDeviceRange_mean {l : List Int} (hl : l ≠ []) (h : ∀ x ∈ l, -500 ≤ x ∧ x ≤ 12000) :
    InDeviceRange (some (roundDiv l.sum l.length)) := by
  have hlength : 0 < (l.length : Int) := by
    have := List.length_pos_iff.2 hl
    omega
  have hlow := List.card_nsmul_le_sum l (-500) fun x hx => (h x hx).1
  have hhigh := List.sum_le_card_nsmul l 12000 fun x hx => (h x hx).2
  rw [nsmul_eq_mul, mul_comm] at hlow hhigh
  exact inDeviceRange_some.2 ⟨le_roundDiv hlength hlow, roundDiv_le hlength hhigh⟩

/-! ### Readings (R54, R56) -/

theorem clampTo_bounds {low high t : Int} (h : low ≤ high) : low ≤ (clampTo low high t).1 ∧ (clampTo low high t).1 ≤ high := by
  unfold clampTo
  (repeat' split) <;> omega

theorem convert_inRange {e : ChannelEntry} (he : TrimLaw e) (curve : List Breakpoint) (card : CardEntry) (emf : Int)
    (burnout : Bool) : InDeviceRange (convert e curve card emf burnout).value := by
  unfold convert
  split
  · exact inDeviceRange_none
  · split
    · exact inDeviceRange_none
    · split
      · exact inDeviceRange_none
      · obtain ⟨-, -, -, -, hlow, hlowHigh, hhigh⟩ := he
        have hclamped := clampTo_bounds (t := trim e.gain e.offset
          (forwardReading curve (emf + coldJunctionEmf curve card.inForce)).1) hlowHigh.le
        exact inDeviceRange_some.2 ⟨hlow.trans hclamped.1, hclamped.2.trans hhigh⟩

variable {s : State}

theorem inRange_of_readingOf {c : ChannelNo} {r : Reading} (h : ReadingOf s c r) (htrim : TrimLaw s.input.channels[c]) :
    InDeviceRange r.value := by
  rcases h with rfl | ⟨curve, card, emf, burnout, rfl⟩
  · exact inDeviceRange_none
  · exact convert_inRange htrim curve card emf burnout

/-- The Input Processor's temperatures lie in the device range. -/
structure InputRange (x : Input) : Prop where
  lastReadings : ∀ c : ChannelNo, InDeviceRange x.channels[c].last.value
  openScan : ∀ scan, x.scan = .scanning scan →
    ∀ (c : ChannelNo) (r : Reading), scan.readings[c] = some r → InDeviceRange r.value

namespace InputRange

variable {x : Input}

/-- Every last reading is that of the same channel before, or a reset one. -/
theorem setChannels (h : InputRange x) {v : Vector ChannelEntry 96}
    (hv : ∀ c : ChannelNo, v[c].last = x.channels[c].last ∨ v[c].last.value = none) :
    InputRange { x with channels := v } where
  lastReadings c := by
    rcases hv c with hlast | hlast
    · exact hlast ▸ h.lastReadings c
    · exact hlast ▸ inDeviceRange_none
  openScan := h.openScan

theorem updChannel (h : InputRange x) {c : ChannelNo} {f : ChannelEntry → ChannelEntry}
    (hf : (f x.channels[c]).last = x.channels[c].last) : InputRange { x with channels := upd x.channels c f } :=
  ⟨forall_upd (Q := fun _ (e : ChannelEntry) => InDeviceRange e.last.value) h.lastReadings fun _ => hf ▸ h.lastReadings c, h.openScan⟩

theorem applyEnable_last (number : Word32) (e : ChannelEntry) :
    (applyEnable number e).last = e.last ∨ (applyEnable number e).last.value = none := by
  unfold applyEnable
  (repeat' split) <;> simp

theorem openedScan (h : InputRange s.input) : InputRange s.openScan.input where
  lastReadings := by
    rw [State.openScan_input_channels]
    refine forall_tab (Q := fun _ (e : ChannelEntry) => InDeviceRange e.last.value) fun c => ?_
    rcases applyEnable_last (nextScanNumber s.input.scanNumber) s.input.channels[c] with hlast | hlast
    · rw [hlast]
      exact h.lastReadings c
    · rw [hlast]
      exact inDeviceRange_none
  openScan scan hscan c r hr := by
    rw [State.openScan_input_scan] at hscan
    obtain rfl := ScanState.scanning.inj hscan
    rw [Fin.getElem_fin, fill_get] at hr
    exact nomatch hr

theorem giveReading (h : InputRange s.input) {c : ChannelNo} {r : Reading} (hr : InDeviceRange r.value) :
    InputRange (s.giveReading c r).input where
  lastReadings := by
    rw [State.giveReading_input_channels]
    exact forall_upd (Q := fun _ (e : ChannelEntry) => InDeviceRange e.last.value) h.lastReadings fun _ => hr
  openScan scan hscan := by
    rw [State.giveReading_input_scan] at hscan
    cases hopen : s.input.scan with
    | idle => rw [hopen] at hscan; exact nomatch hscan
    | waiting => rw [hopen] at hscan; exact nomatch hscan
    | scanning old =>
      rw [hopen] at hscan
      obtain rfl := ScanState.scanning.inj hscan
      refine forall_upd (Q := fun _ (y : Option Reading) => ∀ q, y = some q → InDeviceRange q.value) (h.openScan old hopen) fun _ q hq => ?_
      obtain rfl := Option.some.inj hq
      exact hr

theorem resetRun (h : InputRange x) : InputRange x.resetRun where
  lastReadings := by
    rw [Input.resetRun_channels]
    exact forall_tab (Q := fun _ (e : ChannelEntry) => InDeviceRange e.last.value) fun _ => inDeviceRange_none
  openScan := by rw [Input.resetRun_scan]; exact h.openScan

theorem idle (h : InputRange x) (hlast : x.channels = s.input.channels) : InputRange s.abortScan.input where
  lastReadings := hlast ▸ h.lastReadings
  openScan _ hscan := nomatch hscan

theorem reset : InputRange Input.reset where
  lastReadings := forall_tab (Q := fun _ (e : ChannelEntry) => InDeviceRange e.last.value) fun _ => inDeviceRange_none
  openScan _ hscan := nomatch hscan

end InputRange

theorem closedImage_inRange {scan : OpenScan}
    (h : ∀ (c : ChannelNo) (r : Reading), scan.readings[c] = some r → InDeviceRange r.value) :
    ImageRange (closedImage scan) := by
  refine forall_tab (Q := fun _ (r : Reading) => InDeviceRange r.value) fun c => ?_
  cases hr : scan.readings[c] with
  | none => exact inDeviceRange_none
  | some r => exact h c r hr

/-! ### The stages of a computation (R83, R86, R88, R90) -/

variable {c : CellState} {b : Binding} {readings : Vector Reading 96}

theorem cellRange_congr {d : CellState} (h : CellRange c) (hresolved : d.resolved = c.resolved)
    (hfiltered : d.filtered = c.filtered) (hprev : d.prevFiltered = c.prevFiltered) (hpeak : d.peak = c.peak) :
    CellRange d := by
  rwa [CellRange, hresolved, hfiltered, hprev, hpeak]

theorem cellRange_reset : CellRange CellState.reset :=
  ⟨inDeviceRange_none, inDeviceRange_none, inDeviceRange_none, inDeviceRange_none⟩

theorem applyZone_inRange (h : CellRange c) (zones : Vector ZoneRecord 8) (limitsChanged : Vector Bool 8)
    (i : CellIndex) : CellRange (applyZone zones limitsChanged i c) := by
  unfold applyZone
  dsimp only
  split <;> exact h

theorem usableReading_inRange (h : ∀ n : ChannelNo, InDeviceRange readings[n].value) {channel : Option ChannelNo}
    {x : Int × Reading} (hx : usableReading readings channel = some x) : InDeviceRange (some x.1) := by
  obtain ⟨v, r⟩ := x
  obtain ⟨n, -, rfl, -, hv⟩ := usableReading_eq_some_iff.1 hx
  exact hv ▸ h n

theorem combineSources_inRange (mode : CombineMode) {x y : Int × Reading} (hx : InDeviceRange (some x.1))
    (hy : InDeviceRange (some y.1)) : InDeviceRange (some (combineSources mode x y).value) := by
  cases mode with
  | primary => exact hx
  | mean => exact inDeviceRange_between hx hy (min_le_roundDiv_mean x.1 y.1)
  | higher =>
    unfold combineSources
    dsimp only
    split
    · exact hx
    · exact hy

theorem cellSource_inRange (h : ∀ n : ChannelNo, InDeviceRange readings[n].value) {src : Source}
    (hsrc : cellSource b readings = some src) : InDeviceRange (some src.value) := by
  unfold cellSource at hsrc
  split at hsrc
  next x y hx hy =>
    obtain rfl := Option.some.inj hsrc
    exact combineSources_inRange _ (usableReading_inRange h hx) (usableReading_inRange h hy)
  next x hx _ =>
    obtain rfl := Option.some.inj hsrc
    exact usableReading_inRange h hx
  next y _ hy =>
    obtain rfl := Option.some.inj hsrc
    exact usableReading_inRange h hy
  next => exact nomatch hsrc

theorem resolveCell_inRange (h : CellRange c) (hreadings : ∀ n : ChannelNo, InDeviceRange readings[n].value)
    (allowance : Nat) : CellRange (resolveCell allowance b readings c) := by
  obtain ⟨hresolved, hfiltered, hprev, hpeak⟩ := h
  unfold resolveCell
  split
  next src hsrc => exact ⟨cellSource_inRange hreadings hsrc, hfiltered, hprev, hpeak⟩
  next => split <;> exact ⟨hresolved, hfiltered, hprev, hpeak⟩

variable {passes : Vector PassEntry 4} {cells : Vector CellState 128} {p : PassNo} {t : Station} {x : Int × Int}

theorem anchor_of_map_eq_some {u : Station} (h : (anchorValue passes cells p u).map (fun v => ((u.val : Int), v)) = some x) :
    x.1 = u.val ∧ AnchorAt passes cells p u x.2 := by
  obtain ⟨v, hv, rfl⟩ := Option.map_eq_some_iff.1 h
  exact ⟨rfl, anchorValue_eq_some_iff.1 hv⟩

theorem anchorBelow_eq_some (h : anchorBelow passes cells p t = some x) :
    ∃ u < t, x.1 = u.val ∧ AnchorAt passes cells p u x.2 := by
  obtain ⟨u, hu, hx⟩ := List.exists_of_findSome?_eq_some h
  exact ⟨u, by simpa using hu, anchor_of_map_eq_some hx⟩

theorem anchorAbove_eq_some (h : anchorAbove passes cells p t = some x) :
    ∃ u > t, x.1 = u.val ∧ AnchorAt passes cells p u x.2 := by
  obtain ⟨u, hu, hx⟩ := List.exists_of_findSome?_eq_some h
  exact ⟨u, by simpa using hu, anchor_of_map_eq_some hx⟩

/-- An estimate lies between the values of its anchors. -/
theorem estimate_inRange (h : ∀ i : CellIndex, CellRange cells[i]) :
    InDeviceRange (estimate t.val (anchorBelow passes cells p t) (anchorAbove passes cells p t)) := by
  have anchor_inRange {u v} (hanchor : AnchorAt passes cells p u v) : InDeviceRange (some v) := by
    obtain ⟨-, -, hv⟩ := hanchor
    exact hv ▸ (h (cellAt p u)).1
  cases hbelow : anchorBelow passes cells p t with
  | none =>
    cases habove : anchorAbove passes cells p t with
    | none => exact inDeviceRange_none
    | some y =>
      obtain ⟨u, -, -, hu⟩ := anchorAbove_eq_some habove
      exact anchor_inRange hu
  | some x =>
    obtain ⟨u, hut, hxu, hu⟩ := anchorBelow_eq_some hbelow
    cases habove : anchorAbove passes cells p t with
    | none => exact anchor_inRange hu
    | some y =>
      obtain ⟨w, hwt, hyw, hw⟩ := anchorAbove_eq_some habove
      have hut' : u.val < t.val := hut
      have hwt' : t.val < w.val := hwt
      exact inDeviceRange_between (anchor_inRange hu) (anchor_inRange hw)
        (moved_between (by omega) (by omega) (by omega))

theorem estimateCell_inRange (h : CellRange c) (hcells : ∀ i : CellIndex, CellRange cells[i]) (i : CellIndex) :
    CellRange (estimateCell passes cells i c) := by
  obtain ⟨hresolved, hfiltered, hprev, hpeak⟩ := h
  unfold estimateCell
  split
  · exact ⟨hresolved, hfiltered, hprev, hpeak⟩
  · exact ⟨estimate_inRange hcells, hfiltered, hprev, hpeak⟩

/-- The filtered value lies between the old one and the resolved value. -/
theorem filterValue_inRange {released : Bool} {weight : Nat} {prev resolved : Option Int} (hweight : weight ≤ 16)
    (hprev : InDeviceRange prev) (hresolved : InDeviceRange resolved) :
    InDeviceRange (filterValue released weight prev resolved) := by
  cases resolved with
  | none => exact inDeviceRange_none
  | some new =>
    cases prev with
    | none => exact hresolved
    | some old =>
      unfold filterValue
      dsimp only
      split
      · exact hresolved
      · exact inDeviceRange_between hprev hresolved (moved_between (by decide) (by omega) (by omega))

theorem filterCell_inRange {released : Bool} {weight : Nat} (hweight : weight ≤ 16) (h : CellRange c) :
    CellRange (filterCell released weight c) := by
  obtain ⟨hresolved, hfiltered, hprev, hpeak⟩ := h
  exact ⟨hresolved, filterValue_inRange hweight hfiltered hresolved, hfiltered, hpeak⟩

theorem peakCell_inRange (h : CellRange c) (clear : Bool) (tag : Word32) : CellRange (peakCell clear tag c) := by
  obtain ⟨hresolved, hfiltered, hprev, hpeak⟩ := h
  unfold peakCell
  split
  · split
    · exact ⟨hresolved, hfiltered, hprev, hfiltered⟩
    · exact ⟨hresolved, hfiltered, hprev, inDeviceRange_none⟩
  · split
    · exact ⟨hresolved, hfiltered, hprev, hfiltered⟩
    · exact ⟨hresolved, hfiltered, hprev, hpeak⟩

theorem finishCell_inRange {m : MapEngine} {comp : Computation} {i : CellIndex} (h : CellRange c)
    (hzones : ∀ z : ZoneNo, ZoneLaw z m.zones[z]) : CellRange (finishCell m comp i c) := by
  obtain ⟨-, hresolved, hfiltered, hpeak, hprev⟩ := classifyCell_frame m.passes[passOf i].held comp.released[passOf i]
    m.zones[c.zone] m.bindings[i] comp.source.image (peakCell comp.clearPeaks[passOf i] comp.source.image.timeTag
      (filterCell comp.released[passOf i] m.zones[c.zone].weight c))
  exact cellRange_congr (peakCell_inRange (filterCell_inRange (hzones c.zone).weight.2 h) _ _)
    hresolved hfiltered hprev hpeak

theorem onPresent_inRange {f : CellIndex → CellState → CellState} (hcells : ∀ i : CellIndex, CellRange cells[i])
    (hf : ∀ i c, CellRange c → CellRange (f i c)) (i : CellIndex) : CellRange (onPresent passes f cells)[i] := by
  rw [onPresent_get]
  split
  · exact hf i _ (hcells i)
  · exact hcells i

theorem computedCells_inRange {m : MapEngine} {comp : Computation} (hcells : ∀ i : CellIndex, CellRange m.cells[i])
    (himage : ImageRange comp.source.image) (hzones : ∀ z : ZoneNo, ZoneLaw z m.zones[z]) (i : CellIndex) :
    CellRange (computedCells m comp)[i] := by
  have hstage2 : ∀ i : CellIndex, CellRange (stage2 m comp)[i] :=
    onPresent_inRange hcells fun i _ h => applyZone_inRange h _ _ i
  have hstage3 : ∀ i : CellIndex, CellRange (stage3 m comp)[i] :=
    onPresent_inRange hstage2 fun _ _ h => resolveCell_inRange h himage _
  have hstage4 : ∀ i : CellIndex, CellRange (stage4 m comp)[i] :=
    onPresent_inRange hstage3 fun i _ h => estimateCell_inRange h hstage3 i
  exact onPresent_inRange hstage4 (fun _ _ h => finishCell_inRange h hzones) i

/-! ### The statistics (R12) -/

/-- The statistics of a summary lie in the device range. -/
def SummaryRange (x : Summary) : Prop :=
  InDeviceRange x.hottestValue ∧ InDeviceRange x.coolestValue ∧ InDeviceRange x.mean

theorem mem_of_hottest {l : List (Station × Int)} {y : Station × Int} (hl : l.Pairwise fun y z => y.1 < z.1)
    (h : hottest l = some y) : y ∈ l := by
  cases l with
  | nil => exact nomatch h
  | cons x l =>
    obtain ⟨r, hr, hmem, -⟩ := hottest_is_first_hottest hl
    exact Option.some.inj (hr.symm.trans h) ▸ hmem

theorem mem_of_coolest {l : List (Station × Int)} {y : Station × Int} (hl : l.Pairwise fun y z => y.1 < z.1)
    (h : coolest l = some y) : y ∈ l := by
  cases l with
  | nil => exact nomatch h
  | cons x l =>
    obtain ⟨r, hr, hmem, -⟩ := coolest_is_first_coolest hl
    exact Option.some.inj (hr.symm.trans h) ▸ hmem

theorem summaryOf_inRange (h : ∀ i : CellIndex, CellRange cells[i]) (image : ScanImage) (flag : Bool) (p : PassNo) :
    SummaryRange (summaryOf passes cells image flag p) := by
  have hmem : ∀ y ∈ countedCells passes cells p, -500 ≤ y.2 ∧ y.2 ≤ 12000 := by
    rintro ⟨t, f⟩ hy
    obtain ⟨-, -, hf⟩ := mem_countedCells.1 hy
    exact (h (cellAt p t)).2.1 f hf
  refine ⟨fun v hv => ?_, fun v hv => ?_, ?_⟩
  · obtain ⟨y, hy, rfl⟩ := Option.map_eq_some_iff.1 hv
    exact hmem y (mem_of_hottest countedCells_pairwise hy)
  · obtain ⟨y, hy, rfl⟩ := Option.map_eq_some_iff.1 hv
    exact hmem y (mem_of_coolest countedCells_pairwise hy)
  · show InDeviceRange (meanValue (countedCells passes cells p))
    unfold meanValue
    split
    · exact inDeviceRange_none
    next hne =>
      have hmean := inDeviceRange_mean (l := (countedCells passes cells p).map Prod.snd)
        (by simpa using hne) (by simpa using fun v t hv => hmem (t, v) hv)
      rwa [List.length_map] at hmean

/-! ### The Map Engine -/

/-- The Map Engine's temperatures lie in the device range. -/
structure MapRange (m : MapEngine) : Prop where
  waiting : ∀ w, m.waiting = some w → ImageRange w.image
  computing : ∀ c, m.computing = some c → ImageRange c.source.image ∧ ∀ i : CellIndex, CellRange c.savedCells[i]
  cells : ∀ i : CellIndex, CellRange m.cells[i]
  published : ∀ i : CellIndex, CellRange m.published.cells[i]
  statistics : ∀ p : PassNo, SummaryRange m.published.summaries[p]

namespace MapRange

variable {m : MapEngine}

theorem startComputation (h : MapRange m) {image : MarkedImage} (himage : ImageRange image.image) :
    MapRange (m.startComputation image) where
  waiting := h.waiting
  computing c hc := by
    obtain rfl := Option.some.inj hc
    exact ⟨himage, h.cells⟩
  cells i := by
    cases hresume : image.resume with
    | false =>
      rw [startComputation_cells_of_not_resume hresume]
      exact h.cells i
    | true =>
      rw [startComputation_cell_of_resume hresume]
      exact h.cells i
  published := h.published
  statistics := h.statistics

theorem takeWaiting (h : MapRange m) : MapRange m.takeWaiting := by
  unfold MapEngine.takeWaiting
  split
  · exact h
  next image himage =>
    exact startComputation (m := { m with waiting := none })
      ⟨fun _ hw => (nomatch hw), h.computing, h.cells, h.published, h.statistics⟩ (h.waiting image himage)

theorem completed (h : MapRange m) (hzones : ∀ z : ZoneNo, ZoneLaw z m.zones[z]) {c : Computation}
    (hc : m.computing = some c) : MapRange (m.completed c) := by
  have hcells := computedCells_inRange h.cells (h.computing c hc).1 hzones
  refine ⟨h.waiting, fun _ hc => (nomatch hc), hcells, ?_, ?_⟩
  · refine forall_tab (Q := fun _ => CellRange) fun i => ?_
    split
    · exact hcells i
    · exact cellRange_reset
  · exact forall_tab (Q := fun _ => SummaryRange) fun p => summaryOf_inRange hcells _ _ p

theorem abandon (h : MapRange m) : MapRange m.abandon := by
  unfold MapEngine.abandon
  split
  next hready => exact ⟨fun _ hw => (nomatch hw), h.computing, h.cells, h.published, h.statistics⟩
  next c hc =>
    exact ⟨fun _ hw => (nomatch hw), fun _ hc => (nomatch hc), (h.computing c hc).2, h.published, h.statistics⟩

theorem cleared (passes : Vector PassEntry 4) :
    (∀ i : CellIndex, CellRange (PublishedMap.cleared passes).cells[i])
      ∧ ∀ p : PassNo, SummaryRange (PublishedMap.cleared passes).summaries[p] := by
  refine ⟨fun i => ?_, forall_tab (Q := fun _ => SummaryRange) fun p => ?_⟩
  · rw [show (PublishedMap.cleared passes).cells[i] = CellState.reset from fill_get _ _ _]
    exact cellRange_reset
  · exact ⟨inDeviceRange_none, inDeviceRange_none, inDeviceRange_none⟩

theorem resetRun (m : MapEngine) : MapRange m.resetRun where
  waiting _ hw := nomatch hw
  computing _ hc := nomatch hc
  cells i := by
    rw [show m.resetRun.cells[i] = CellState.reset from fill_get _ _ _]
    exact cellRange_reset
  published := by rw [MapEngine.resetRun_published]; exact (cleared _).1
  statistics := by rw [MapEngine.resetRun_published]; exact (cleared _).2

theorem reset : MapRange MapEngine.reset where
  waiting _ hw := nomatch hw
  computing _ hc := nomatch hc
  cells i := by
    rw [show MapEngine.reset.cells[i] = CellState.reset from fill_get _ _ _]
    exact cellRange_reset
  published := (cleared _).1
  statistics := (cleared _).2

theorem setPass (h : MapRange m) (p : PassNo) (n : Nat) (limit : Option Int) : MapRange (m.setPass p n limit) where
  waiting := h.waiting
  computing := h.computing
  cells := forall_tab (Q := fun _ => CellRange) fun i => by
    split
    · exact h.cells i
    · exact cellRange_reset
  published := h.published
  statistics := h.statistics

theorem imageArrives (h : MapRange s.map) {image : ScanImage} (himage : ImageRange image) :
    MapRange (s.imageArrives image).map := by
  unfold State.imageArrives
  dsimp only
  split
  · exact startComputation (m := { s.map with resumeMarker := false })
      ⟨h.waiting, h.computing, h.cells, h.published, h.statistics⟩ himage
  · exact ⟨fun _ hw => Option.some.inj hw ▸ himage, h.computing, h.cells, h.published, h.statistics⟩
  · rw [State.emit_map]
    exact ⟨fun _ hw => Option.some.inj hw ▸ himage, h.computing, h.cells, h.published, h.statistics⟩

end MapRange

/-! ### Every step -/

theorem rangeLaw_iff : RangeLaw s ↔ InputRange s.input ∧ MapRange s.map :=
  ⟨fun h => ⟨⟨h.lastReadings, h.openScan⟩, ⟨h.waiting, h.computing, h.cells, h.published, h.statistics⟩⟩,
    fun ⟨⟨hlast, hopen⟩, ⟨hwaiting, hcomputing, hcells, hpublished, hstatistics⟩⟩ =>
      ⟨hlast, hopen, hwaiting, hcomputing, hcells, hpublished, hstatistics⟩⟩

/-- The configuration lies in its ranges and the temperatures in the device range, block by block: the clamps and
the weights of the configuration are what keeps the temperatures there. -/
def TemperaturesSound (s : State) : Prop := SettingsSound s ∧ InputRange s.input ∧ MapRange s.map

namespace TemperaturesSound

theorem publish (hs : TemperaturesSound s) : TemperaturesSound s.publish := by
  obtain ⟨hsettings, hinput, hmap⟩ := hs
  refine ⟨hsettings.publish, ?_⟩
  unfold State.publish
  split
  · exact ⟨hinput, hmap⟩
  next c hc => exact ⟨hinput, (hmap.completed hsettings.2.zones hc).takeWaiting⟩

theorem stateFlowClosed : StateFlowClosed TemperaturesSound where
  transit _ _ hs := hs
  draws _ _ hs := hs
  logged _ _ hs := hs
  arrived _ _ hs := hs

theorem eventClosed : EventClosed TemperaturesSound where
  toStateFlowClosed := stateFlowClosed
  outstanding s o hs := ⟨SettingsSound.eventClosed.outstanding s o hs.1, ⟨hs.2.1.lastReadings, hs.2.1.openScan⟩, hs.2.2⟩
  asked s k hs := by
    refine ⟨SettingsSound.eventClosed.asked s k hs.1, ⟨hs.2.1.lastReadings, fun scan hscan => ?_⟩, hs.2.2⟩
    cases hopen : s.input.scan with
    | idle => exact nomatch hopen ▸ hscan
    | waiting => exact nomatch hopen ▸ hscan
    | scanning old =>
      obtain rfl : _ = scan := ScanState.scanning.inj ((congrArg (markAsked k) hopen).symm.trans hscan)
      exact hs.2.1.openScan old hopen
  delivered s scan hscan hs := by
    refine ⟨SettingsSound.eventClosed.delivered s scan hscan hs.1, ?_,
      MapRange.imageArrives (s := s.setScan .waiting) hs.2.2 (closedImage_inRange (hs.2.1.openScan scan hscan))⟩
    rw [State.imageArrives_input]
    exact ⟨hs.2.1.lastReadings, fun _ h => (nomatch h)⟩
  card s k f hf hs := ⟨SettingsSound.eventClosed.card s k f hf hs.1, ⟨hs.2.1.lastReadings, hs.2.1.openScan⟩, hs.2.2⟩
  due s b hs := ⟨SettingsSound.eventClosed.due s b hs.1, ⟨hs.2.1.lastReadings, hs.2.1.openScan⟩, hs.2.2⟩
  opened s hs := ⟨SettingsSound.eventClosed.opened s hs.1, hs.2.1.openedScan, hs.2.2⟩
  reading s c r hr hs := ⟨SettingsSound.eventClosed.reading s c r hr hs.1,
    hs.2.1.giveReading (inRange_of_readingOf hr (hs.1.1.channels.trims c)), by
      rw [State.giveReading_map]
      exact hs.2.2⟩

theorem ownerClosed : OwnerClosed TemperaturesSound where
  toEventClosed := eventClosed
  conditions _ hs := hs
  started s hstate hvalid hs := ⟨SettingsSound.ownerClosed.started s hstate hvalid hs.1, hs.2.1.resetRun, .resetRun _⟩
  stopped s hs := ⟨SettingsSound.ownerClosed.stopped s hs.1, hs.2.1.idle rfl, hs.2.2.abandon⟩
  paused s hstate hs := ⟨SettingsSound.ownerClosed.paused s hstate hs.1, hs.2.1.idle rfl, hs.2.2⟩
  resumed s hstate hs := ⟨SettingsSound.ownerClosed.resumed s hstate hs.1, hs.2.1,
    ⟨hs.2.2.waiting, hs.2.2.computing, hs.2.2.cells, hs.2.2.published, hs.2.2.statistics⟩⟩
  restarted s hs := by
    refine ⟨SettingsSound.ownerClosed.restarted s hs.1, ?_, ?_⟩
    · have hinput := (hs.2.1.idle (s := s) rfl).resetRun
      exact ⟨hinput.lastReadings, hinput.openScan⟩
    · have hmap := MapRange.resetRun s.map.abandon
      exact ⟨hmap.waiting, hmap.computing, hmap.cells, hmap.published, hmap.statistics⟩
  timeTag _ _ hs := hs
  resolution _ _ hs := hs
  interval s n hlow hhigh hs := ⟨SettingsSound.ownerClosed.interval s n hlow hhigh hs.1,
    ⟨hs.2.1.lastReadings, hs.2.1.openScan⟩, hs.2.2⟩
  channel s c card input curve gain offset low high hstate hok hfree hs :=
    ⟨SettingsSound.ownerClosed.channel s c card input curve gain offset low high hstate hok hfree hs.1,
      hs.2.1.updChannel rfl, hs.2.2⟩
  enable s c b hfree hs := ⟨SettingsSound.ownerClosed.enable s c b hfree hs.1, hs.2.1.updChannel rfl, hs.2.2⟩
  curve s n curve hstate hok hs := ⟨SettingsSound.ownerClosed.curve s n curve hstate hok hs.1,
    ⟨hs.2.1.lastReadings, hs.2.1.openScan⟩, hs.2.2⟩
  substitute s k t hstate hlow hhigh hs := ⟨SettingsSound.ownerClosed.substitute s k t hstate hlow hhigh hs.1,
    ⟨hs.2.1.lastReadings, hs.2.1.openScan⟩, hs.2.2⟩
  pass s p n limit hstate hlow hhigh hlimit hs := ⟨SettingsSound.ownerClosed.pass s p n limit hstate hlow hhigh hlimit hs.1,
    hs.2.1, hs.2.2.setPass p n limit⟩
  binding s pl i b hstate hb hs := ⟨SettingsSound.ownerClosed.binding s pl i b hstate hb hs.1, hs.2.1,
    ⟨hs.2.2.waiting, hs.2.2.computing, hs.2.2.cells, hs.2.2.published, hs.2.2.statistics⟩⟩
  zone s pl z r hr hs := ⟨SettingsSound.ownerClosed.zone s pl z r hr hs.1, hs.2.1,
    ⟨hs.2.2.waiting, hs.2.2.computing, hs.2.2.cells, hs.2.2.published, hs.2.2.statistics⟩⟩
  hold s p b hs := ⟨SettingsSound.ownerClosed.hold s p b hs.1, hs.2.1,
    ⟨hs.2.2.waiting, hs.2.2.computing, hs.2.2.cells, hs.2.2.published, hs.2.2.statistics⟩⟩
  peaks s v hs := ⟨SettingsSound.ownerClosed.peaks s v hs.1, hs.2.1,
    ⟨hs.2.2.waiting, hs.2.2.computing, hs.2.2.cells, hs.2.2.published, hs.2.2.statistics⟩⟩
  trend _ _ _ _ _ _ hs := hs
  logClear _ hs := hs
  taken _ _ hs := hs
  mask _ _ hs := hs
  unmask _ _ hs := hs
  level _ _ hs := hs
  permit _ _ _ _ hs := hs

theorem stepClosed : StepClosed TemperaturesSound where
  toOwnerClosed := ownerClosed
  queue _ _ hs := hs
  port s p q hs := by rwa [TemperaturesSound, SettingsSound, State.setPort_input, State.setPort_map]
  frameError _ hs := hs
  maintWrite _ hs := hs
  supply _ _ _ hs := hs
  reset _ _ _ _ := ⟨⟨.reset, .reset⟩, .reset, .reset⟩

end TemperaturesSound

/-- Settles O59: a reading is limited to its channel's clamps, a published value lies between values that were in
range, and a step brings in no other temperature. -/
theorem stepKeepsRangeLaw : Obligations.StepKeepsRangeLaw := by
  intro s t hsettings hs ht
  exact rangeLaw_iff.2 (TemperaturesSound.stepClosed.step s t ⟨settingsLaw_iff.1 hsettings, rangeLaw_iff.1 hs⟩
    (fun _ h => h.publish) ht).2

end Sys2Proof.Machine
end

section
/-! PROOF. The step and the queue of commands, the reset values, and the part that does not operate (R158, R160, R168). -/

namespace Sys2Proof.Machine

variable {s t v : State} {k : RequestKind} {p q : Port}

/-! ### What lies outside the blocks -/

/-- Two states alike in supply, pin, ports, permissions and waiting commands. -/
def SameShell (v t : State) : Prop :=
  t.powered = v.powered ∧ t.resetPin = v.resetPin ∧ t.link = v.link ∧ t.pending = v.pending

namespace SameShell

theorem trans {w : State} (h : SameShell v t) (h' : SameShell t w) : SameShell v w := by
  obtain ⟨hpowered, hpin, hlink, hpending⟩ := h
  obtain ⟨hpowered', hpin', hlink', hpending'⟩ := h'
  exact ⟨hpowered'.trans hpowered, hpin'.trans hpin, hlink'.trans hlink, hpending'.trans hpending⟩

theorem eventClosed (v : State) : EventClosed (SameShell v) where
  transit _ _ hs := hs
  draws _ _ hs := hs
  logged _ _ hs := hs
  arrived _ _ hs := hs
  outstanding _ _ hs := hs
  asked _ _ hs := hs
  delivered s _ _ hs := hs.trans ⟨by simp, by simp, by simp, by simp⟩
  card _ _ _ _ hs := hs
  due _ _ hs := hs
  opened _ hs := hs
  reading s c r _ hs := hs.trans ⟨by simp, by simp, by simp, by simp⟩

theorem beginScan (s : State) : SameShell s s.beginScan := (eventClosed s).beginScan s ⟨rfl, rfl, rfl, rfl⟩

end SameShell

/-- An event of the card link, the timer, the time tag or the Map Engine touches neither the ports nor what lies
outside the part. -/
theorem EventEffect.sameShell (h : EventEffect s t) : SameShell s t := by
  have hclosed := SameShell.eventClosed s
  have hs : SameShell s s := ⟨rfl, rfl, rfl, rfl⟩
  cases h with
  | conversion sound card input emf burnout => exact hclosed.conversionArrives s sound card input emf burnout hs
  | coldJunction sound card temperature => exact hclosed.coldJunctionArrives s sound card temperature hs
  | expiry => exact hclosed.answerPeriodExpires s hs
  | timer => exact hclosed.timerExpires s hs
  | period =>
    unfold State.timeTagPeriod
    dsimp only
    split
    · exact hclosed.emit _ _ hs
    · exact hs
  | publication =>
    unfold State.publish
    split
    · exact hs
    · exact hs

/-- A request's owner touches the permission table at most. -/
theorem Served.shell {code : ResultCode} (h : Served k s code t) :
    t.powered = s.powered ∧ t.resetPin = s.resetPin ∧ t.pending = s.pending
      ∧ t.link = { s.link with permits := t.link.permits } := by
  have scanned : ∀ {u : State}, SameShell s u → SameShell s u.beginScan := fun hu => hu.trans (.beginScan _)
  have of_same : ∀ {u : State}, SameShell s u → u.powered = s.powered ∧ u.resetPin = s.resetPin ∧ u.pending = s.pending
      ∧ u.link = { s.link with permits := u.link.permits } := by
    rintro u ⟨hpowered, hpin, hlink, hpending⟩
    exact ⟨hpowered, hpin, hpending, by rw [hlink]⟩
  cases h with
  | started => exact of_same (scanned ⟨rfl, rfl, rfl, rfl⟩)
  | resumed => exact of_same (scanned ⟨rfl, rfl, rfl, rfl⟩)
  | _ => exact ⟨rfl, rfl, rfl, rfl⟩

theorem port_of_link_ports (h : t.link = { s.link with permits := t.link.permits }) (p : Port) : t.port p = s.port p := by
  cases p <;> (unfold State.port; rw [h])

theorem State.hunt_eq_setPort (s : State) (p : Port) : s.hunt p = s.setPort p ⟨.hunting, (s.port p).reply⟩ := rfl

theorem State.port_of_link {u : State} (h : u.link = s.link) (p : Port) : u.port p = s.port p := by
  cases p <;> (unfold State.port; rw [h])

/-- A command of a port leaves the waiting commands and the other port as they were. -/
theorem PortEffect.frame (h : PortEffect p s t) : t.pending = s.pending ∧ (p ≠ q → t.port q = s.port q) := by
  have other : ∀ {u : State} {x : PortState}, u.port q = s.port q → p ≠ q → (u.setPort p x).port q = s.port q := by
    intro u x hu hpq
    rwa [State.port_setPort_ne _ _ hpq]
  cases h with
  | unchanged => exact ⟨rfl, fun _ => rfl⟩
  | assembly a => exact ⟨by simp, other rfl⟩
  | damaged => exact ⟨by simp, fun hpq => (State.port_of_link rfl q).trans (other (x := ⟨.hunting, _⟩) rfl hpq)⟩
  | refused => exact ⟨by simp, other rfl⟩
  | synced tag => exact ⟨by simp, other (State.port_of_link (by simp) q)⟩
  | ended => exact ⟨by simp, other rfl⟩
  | served k pl =>
    obtain ⟨-, -, hpending, hlink⟩ := (serveKind_served k p pl s).shell
    exact ⟨by simp [hpending], other ((State.port_of_link (by simp) q).trans (port_of_link_ports hlink q))⟩

/-! ### The step and the queue -/

/-- Settles O1: `step` is defined by the queue, and an idle moment by what is in transit. -/
theorem stepRunsFrontCommand : Obligations.StepRunsFrontCommand := by
  intro s
  refine ⟨fun c rest h => ?_, fun h hidle => ?_, fun h hop htransit => ?_⟩
  · rw [step, h]
  · rw [step, h]
    have hskip : ¬ (s.operating && !s.transit.isEmpty) = true := by
      rcases hidle with hidle | hidle <;> simp [hidle]
    exact congrArg Host.Outcome.next (if_neg hskip)
  · have harrive : (s.operating && !s.transit.isEmpty) = true := by simp [hop, htransit]
    refine ⟨s.idle, by rw [step, h], ?_⟩
    rw [State.idle, if_pos harrive]
    rcases Flow.arrival_cases (tag := s.op.timeTag) s.flow (Config.arrivalOrder s.draws 0) with ⟨hnone, -⟩ | harrives
    · exact absurd hnone htransit
    · exact ⟨harrives, rfl⟩

theorem exec_next (c : Instr) (s : State) : ∃ t : State, exec c s = .next t := by
  obtain ⟨k, p, pl, rfl⟩ | ⟨p, pl, rfl⟩ | hc | ⟨p, kind, pl, rfl⟩ | ⟨p, rfl⟩ | ⟨p, rfl⟩ | ⟨p, rfl⟩ | ⟨p, rfl⟩
    | ⟨sound, card, input, emf, burnout, rfl⟩ | ⟨sound, card, temp, rfl⟩ | rfl | rfl | rfl | rfl | ⟨p, b, rfl⟩
    := command_cases c
  case inr.inr.inl => cases c <;> simp only [Instr.isSupplyRow, Bool.false_eq_true] at hc <;> exact ⟨_, rfl⟩
  · exact ⟨_, exec_command k p pl s⟩
  all_goals exact ⟨_, rfl⟩

/-- Settles O2: every command answers a next state, and by its kind of effect it leaves the queue. -/
theorem commandsCompleteAndLeaveQueue : Obligations.CommandsCompleteAndLeaveQueue := by
  intro c s
  obtain ⟨t, ht⟩ := exec_next c s
  refine ⟨t, ht, ?_⟩
  rcases exec_cases ht with hsupply | ⟨p, -, heffect⟩ | ⟨-, -, ⟨-, rfl⟩ | ⟨-, hevent⟩⟩
  · cases c <;> simp only [Instr.isSupplyRow, Bool.false_eq_true] at hsupply
    case resetPinRelease straps =>
      obtain rfl := Host.Outcome.next.inj ht
      split <;> rfl
    all_goals (cases ht; rfl)
  · exact (heffect.frame (q := p)).1
  · rfl
  · exact hevent.sameShell.2.2.2

/-! ### The debounce and the laws at reset -/

/-- Settles O28: the table of the debounce, run over one to three readings. -/
theorem debounceCountsThree : Obligations.DebounceCountsThree := by
  intro h
  refine ⟨?_, fun _ => rfl, rfl, rfl, rfl, fun _ => rfl⟩
  rintro (rfl | rfl) <;> exact ⟨rfl, rfl, rfl, rfl⟩

theorem healthLaw_default (c : ChannelNo) : HealthLaw (ChannelEntry.default c) := by
  simp [HealthLaw, ChannelEntry.default]

/-- Settles O52. -/
theorem lawsHoldAtReset : Obligations.LawsHoldAtReset :=
  ⟨logClosed_logLaw.reset, queueLaw_reset true, forall_tab (Q := fun _ => HealthLaw) healthLaw_default, trendLaw_reset,
    scanLaw_afterReset _ _ _ _, MapLaw.stepClosed.reset _ _ _ _, rangeLaw_iff.2 ⟨.reset, .reset⟩,
    settingsLaw_iff.2 ⟨.reset, .reset⟩, refusesPermitSet_reset _ _ _ _⟩

/-! ### Supply and reset pin -/

/-- Every block of the part after a reset is at the value that its chapter gives. -/
theorem resetValues_afterReset (straps : Straps) (powerOn pin : Bool) (draws : Nat) (pending : List Instr) :
    ResetValues straps { State.afterReset straps powerOn draws pending with resetPin := pin } where
  operating := rfl
  station := ⟨rfl, rfl⟩
  ports p := by cases p <;> rfl
  permissions := defaultPermits_get
  channels := forall_tab (Q := fun c e => e = ChannelEntry.default c) fun _ => rfl
  curves _ := fill_get _ _ _
  cards _ := fill_get _ _ _
  scan := ⟨rfl, rfl, rfl, rfl, rfl⟩
  passes _ := fill_get _ _ _
  bindings _ := fill_get _ _ _
  cells _ := fill_get _ _ _
  zoneZero := forall_tab (Q := fun z e => e = ZoneRecord.default z) (fun _ => rfl) 0
  zones z hz := by
    have hdefault := forall_tab (Q := fun z e => e = ZoneRecord.default z) (fun _ => rfl) z
    refine hdefault.trans ?_
    simp [ZoneRecord.default, hz]
  latch := ⟨fun _ => fill_get _ _ _, fun _ => fill_get _ _ _, fun _ => fill_get _ _ _⟩
  intake := ⟨rfl, rfl, rfl⟩
  summaries := forall_tab (Q := fun _ x => x = Summary.cleared 32) fun p => by
    rw [Fin.getElem_fin, fill_get]
    rfl
  published _ := rfl
  pool _ := fill_get _ _ _
  trends _ := fill_get _ _ _
  log := ⟨fun _ => fill_get _ _ _, rfl, rfl, rfl⟩
  notices := ⟨rfl, fun _ => fill_get _ _ _, rfl⟩

/-- Settles O3. -/
theorem powerOnAndResetValues : Obligations.PowerOnAndResetValues := by
  intro straps s
  refine ⟨⟨_, rfl, resetValues_afterReset straps true s.resetPin s.draws s.pending, rfl, rfl⟩, fun hpowered => ?_⟩
  exact ⟨_, congrArg Host.Outcome.next (if_pos hpowered), resetValues_afterReset straps _ false _ _, rfl, rfl⟩

/-- A part that does not operate takes no command but those of the supply and the pin. -/
theorem exec_of_not_operating (h : s.operating = false) {c : Instr} (hc : c.isSupplyRow = false) :
    exec c s = .next s := by
  have hlisten : ∀ p, s.listening p = false := fun p => by rw [State.listening, h, Bool.false_and]
  have event : ∀ u : State, Host.Outcome.next (if s.operating then u else s)
      = (Host.Outcome.next s : Host.Outcome State Fault Refusal) := fun u => by
    rw [h]
    rfl
  have hdamage : ∀ p, s.damageFrame p = s := fun p => if_neg (by rw [hlisten]; decide)
  obtain ⟨k, p, pl, rfl⟩ | ⟨p, pl, rfl⟩ | hc' | ⟨p, kind, pl, rfl⟩ | ⟨p, rfl⟩ | ⟨p, rfl⟩ | ⟨p, rfl⟩ | ⟨p, rfl⟩
    | ⟨sound, card, input, emf, burnout, rfl⟩ | ⟨sound, card, temp, rfl⟩ | rfl | rfl | rfl | rfl | ⟨p, b, rfl⟩
    := command_cases c
  · rw [exec_command, State.takeRequest, hlisten]
    rfl
  · refine congrArg Host.Outcome.next ?_
    rw [State.broadcastSync, hlisten]
    rfl
  · rw [hc] at hc'
    exact nomatch hc'
  · refine congrArg Host.Outcome.next ?_
    unfold State.takeKind State.takeRequest
    rw [hlisten]
    split <;> rfl
  · exact congrArg Host.Outcome.next (if_neg (by rw [hlisten]; decide))
  · exact congrArg Host.Outcome.next (hdamage p)
  · refine congrArg Host.Outcome.next ?_
    unfold State.gapTimeout
    split
    · rfl
    · exact hdamage p
  · exact congrArg Host.Outcome.next (if_neg (by simp [h]))
  · exact event _
  · exact event _
  · exact event _
  · exact event _
  · exact event _
  · exact event _
  · exact congrArg Host.Outcome.next (if_neg (by rw [hlisten]; decide))

/-- Settles O4. -/
theorem heldAndUnpoweredPart : Obligations.HeldAndUnpoweredPart := by
  refine ⟨⟨fun s => ⟨_, rfl, rfl, fun p => ?_, rfl, rfl⟩, fun c s hheld hc => ?_⟩, fun straps s => ⟨⟨_, rfl, rfl, fun p => ?_,
    rfl, rfl⟩, fun hpowered => ?_⟩⟩
  · cases p <;> rfl
  · have hoff : s.operating = false := by
      rcases hheld with hpin | hpowered
      · rw [State.operating, hpin, Bool.not_true, Bool.and_false]
      · rw [State.operating, hpowered, Bool.false_and]
    exact ⟨exec_of_not_operating hoff hc, by rw [State.attentionLine, hoff, Bool.false_and]⟩
  · cases p <;> rfl
  · exact congrArg Host.Outcome.next (if_neg (by rw [hpowered]; decide))

/-- Settles O11: by its kind of effect a command leaves the port it does not come on. -/
theorem portsIndependent : Obligations.PortsIndependent := by
  intro c q s t hc hq ht
  rcases exec_cases ht with hsupply | ⟨p, hp, heffect⟩ | ⟨-, -, ⟨-, rfl⟩ | ⟨-, hevent⟩⟩
  · rw [hc] at hsupply
    exact nomatch hsupply
  · exact heffect.frame.2 (fun hpq => hq (hpq ▸ hp))
  · rfl
  · exact State.port_of_link hevent.sameShell.2.2.1 q

end Sys2Proof.Machine
end

section
/-! PROOF. Bytes, frames and replies (R167 to R172): what a byte does to a port, the frame received byte by byte, and the reply. -/

namespace Sys2Proof.Machine

variable {s t : State} {p : Port} {k : RequestKind} {a : Assembly} {held : List Byte} {b : Byte}

/-! ### A listening port -/

theorem listening_of (hop : s.operating = true) (h : (s.port p).reply = none) : s.listening p = true := by
  rw [State.listening, hop, h]
  rfl

theorem not_listening_of_reply (h : (s.port p).reply ≠ none) : s.listening p = false := by
  rw [State.listening, Option.isNone_eq_false_iff.2 (Option.isSome_iff_ne_none.2 h), Bool.and_false]

theorem hunt_of_silent (h : (s.port p).reply = none) : s.hunt p = s.setPort p ⟨.hunting, none⟩ := by
  rw [State.hunt_eq_setPort, h]

theorem hunt_of_hunting (h : s.port p = ⟨.hunting, none⟩) : s.hunt p = s := by
  rw [hunt_of_silent (by rw [h]), ← h, State.setPort_port]

theorem damageFrame_of_listening (hop : s.operating = true) (h : (s.port p).reply = none) :
    s.damageFrame p = (s.setPort p ⟨.hunting, none⟩).setFrameError := by
  rw [State.damageFrame, if_pos (listening_of hop h), hunt_of_silent h]

theorem operating_setPort (s : State) (p : Port) (q : PortState) : (s.setPort p q).operating = s.operating := by
  rw [State.operating, State.setPort_powered, State.setPort_resetPin]
  rfl

theorem port_assembling (h : s.port p = ⟨a, none⟩) : (s.port p).reply = none := by rw [h]

/-! ### A byte (R168, R171) -/

theorem receiveByte_assembling (hop : s.operating = true) (h : s.port p = ⟨.assembling held, none⟩) (b : Byte) :
    s.receiveByte p b = s.assembled p (held ++ [b]) := by
  rw [State.receiveByte, if_pos (listening_of hop (port_assembling h))]
  simp only [h]

/-- The held bytes go on to be collected: with the new one they are no whole frame, and their length byte no damage. -/
def Collects (held : List Byte) (b : Byte) : Prop :=
  held.length < 2 ∨ (held.length = 2 ∧ b.toNat ≤ 240)
    ∨ (3 ≤ held.length ∧ held.length + 1 < (held.getD 2 0).toNat + 5)

theorem assembled_of_collects (h : s.port p = ⟨.assembling held, none⟩) (hb : Collects held b) :
    s.assembled p (held ++ [b]) = s.setPort p ⟨.assembling (held ++ [b]), none⟩ := by
  have hdamage : ¬ ((held ++ [b]).length = 3 ∧ 240 < u8 (held ++ [b]) 2) := by
    rintro ⟨hlen, hbig⟩
    rw [List.length_append, List.length_singleton] at hlen
    rcases hb with hb | ⟨htwo, hsmall⟩ | ⟨hthree, -⟩
    · omega
    · rw [u8, List.getD_append_right _ _ _ _ (by omega), htwo] at hbig
      exact absurd hbig (by simpa using hsmall)
    · omega
  have hwhole : ¬ (3 ≤ (held ++ [b]).length ∧ (held ++ [b]).length = frameLength (held ++ [b])) := by
    rintro ⟨hlen, hframe⟩
    rw [frameLength] at hframe
    rw [List.length_append, List.length_singleton] at hlen hframe
    rcases hb with hb | ⟨htwo, hsmall⟩ | ⟨hthree, hmore⟩
    · omega
    · omega
    · rw [u8, List.getD_append _ _ _ _ (by omega)] at hframe
      omega
  rw [State.assembled, if_neg (by simpa only [Bool.and_eq_true, decide_eq_true_eq] using hdamage),
    if_neg (by simpa only [Bool.and_eq_true, decide_eq_true_eq] using hwhole), h]

theorem exec_byte_collected (hop : s.operating = true) (h : s.port p = ⟨.assembling held, none⟩) (hb : Collects held b) :
    exec (.byteReceived p b) s = .next (s.setPort p ⟨.assembling (held ++ [b]), none⟩) :=
  congrArg Host.Outcome.next ((receiveByte_assembling hop h b).trans (assembled_of_collects h hb))

theorem exec_byte_hunting (hop : s.operating = true) (h : s.port p = ⟨.hunting, none⟩) :
    exec (.byteReceived p b) s = .next (if b = 0xA7 then s.setPort p ⟨.assembling [], none⟩ else s) := by
  refine congrArg Host.Outcome.next ?_
  rw [State.receiveByte, if_pos (listening_of hop (port_assembling h))]
  simp only [h, startByte]

theorem bytesAreHuntedCollectedAndDiscarded : BytesAreHuntedCollectedAndDiscarded := by
  intro p b s hop
  refine ⟨fun hreply => ?_, exec_byte_hunting hop, fun held h hb => exec_byte_collected hop h hb⟩
  exact congrArg Host.Outcome.next (if_neg (by rw [not_listening_of_reply hreply]; decide))

/-- A length byte above 240 damages the frame. -/
theorem assembled_of_long {h0 h1 : Byte} (hb : 240 < b.toNat) : s.assembled p [h0, h1, b] = s.damageFrame p :=
  if_pos (by simpa [u8] using hb)

theorem replyKind_of_low {kind : Byte} (h : kind.toNat < 128) : replyKind kind = kind + 0x80 := if_pos h

theorem frameAndReplyEnds : FrameAndReplyEnds := by
  intro p s hop
  refine ⟨fun hreply => ⟨?_, ?_, fun held hheld => ?_, fun b h0 h1 hheld hb => ?_, fun kind pl hkind hlow => ?_⟩,
    fun reply hreply => ?_⟩
  · exact congrArg Host.Outcome.next (damageFrame_of_listening hop hreply)
  · refine congrArg Host.Outcome.next ?_
    rw [State.ignoreFrame, if_pos (listening_of hop hreply), hunt_of_silent hreply]
  · refine congrArg Host.Outcome.next (Eq.trans ?_ (damageFrame_of_listening hop hreply))
    simp only [State.gapTimeout, hheld]
  · refine congrArg Host.Outcome.next (Eq.trans ?_ (damageFrame_of_listening hop hreply))
    rw [State.receiveByte, if_pos (listening_of hop hreply), ← assembled_of_long (h0 := h0) (h1 := h1) hb]
    simp only [hheld]
    rfl
  · refine congrArg Host.Outcome.next ?_
    simp only [State.takeKind, hkind]
    rw [if_pos (listening_of hop hreply), State.sendReply, replyFrame, replyKind_of_low hlow]
    rfl
  · exact congrArg Host.Outcome.next (if_pos (by rw [hop, hreply]; rfl))

/-- Settles O5. -/
theorem bytesAndFrameEnds : Obligations.BytesAndFrameEnds := ⟨bytesAreHuntedCollectedAndDiscarded, frameAndReplyEnds⟩

/-! ### A frame byte by byte (R167 to R169) -/

theorem runAll_append {cs ds : List Instr} (h : runAll cs s = .next t) : runAll (cs ++ ds) s = runAll ds t := by
  induction cs generalizing s with
  | nil =>
    obtain rfl := Host.Outcome.next.inj h
    rfl
  | cons c cs ih =>
    obtain ⟨u, hu⟩ := exec_next c s
    rw [runAll, hu] at h
    rw [List.cons_append, runAll, hu]
    exact ih h

theorem runAll_singleton (c : Instr) (s : State) : runAll [c] s = exec c s := by
  obtain ⟨t, ht⟩ := exec_next c s
  rw [runAll, ht]
  rfl

/-- All bytes of a frame but its last, received on a port that has had its start byte, are collected. -/
theorem runAll_front {frame : List Byte} {n : Byte} (hop : s.operating = true) (hn : n.toNat ≤ 240)
    (hlen : frame.length = n.toNat + 5) (hget : frame[2]? = some n) {m : Nat} (hm : m < frame.length) :
    runAll ((frame.take m).map (.byteReceived p)) (s.setPort p ⟨.assembling [], none⟩) =
      .next (s.setPort p ⟨.assembling (frame.take m), none⟩) := by
  induction m with
  | zero => rfl
  | succ m ih =>
    have hlt : m < frame.length := by omega
    have hcollects : Collects (frame.take m) frame[m] := by
      rw [Collects, List.length_take, min_eq_left hlt.le]
      rcases lt_trichotomy m 2 with htwo | rfl | hthree
      · exact .inl htwo
      · refine .inr (.inl ⟨rfl, ?_⟩)
        rw [Option.some.inj ((List.getElem?_eq_getElem hlt).symm.trans hget)]
        exact hn
      · refine .inr (.inr ⟨hthree, ?_⟩)
        rw [List.getD_eq_getElem?_getD, List.getElem?_take_of_lt hthree, hget, Option.getD_some]
        omega
    rw [List.take_succ_eq_append_getElem hlt, List.map_append, runAll_append (ih hlt), List.map_singleton, runAll_singleton,
      exec_byte_collected ((operating_setPort ..).trans hop) (State.port_setPort_self ..) hcollects, State.setPort_setPort]

/-- A whole frame after its start byte: the bytes the check covers, and two check bytes. -/
theorem assembled_whole {address kind hi lo : Byte} {pl : List Byte} (hpl : pl.length ≤ 240) :
    s.assembled p (([address, kind, put8 pl.length] ++ pl) ++ [hi, lo]) =
      if checkBytes ([address, kind, put8 pl.length] ++ pl) = [hi, lo] then s.handleFrame p address kind pl
      else s.damageFrame p := by
  have hn : (put8 pl.length).toNat = pl.length := by rw [put8_toNat]; omega
  have hlength : (([address, kind, put8 pl.length] ++ pl) ++ [hi, lo]).length = 3 + pl.length + 2 := by
    simp
    omega
  have hu8 : u8 (([address, kind, put8 pl.length] ++ pl) ++ [hi, lo]) 2 = pl.length := hn
  have hcheck : checkAgrees (([address, kind, put8 pl.length] ++ pl) ++ [hi, lo]) =
      decide (checkBytes ([address, kind, put8 pl.length] ++ pl) = [hi, lo]) := by
    have hfront : ([address, kind, put8 pl.length] ++ pl).length
        = (([address, kind, put8 pl.length] ++ pl) ++ [hi, lo]).length - 2 := by simp
    rw [checkAgrees, ← hfront, List.take_left, List.drop_left]
    exact Bool.beq_eq_decide_eq _ _
  rw [State.assembled, if_neg (by rw [hlength, Bool.and_eq_true, decide_eq_true_eq]; omega),
    if_pos (by rw [hlength, frameLength, hu8, Bool.and_eq_true, decide_eq_true_eq, decide_eq_true_eq]; omega), hcheck, hu8]
  simp

/-- The bytes of a frame, start byte first, on a HUNTING port: they do what its last byte does with all of them. -/
theorem runAll_frame {address kind hi lo : Byte} {pl : List Byte} (hop : s.operating = true)
    (hport : s.port p = ⟨.hunting, none⟩) (hpl : pl.length ≤ 240) :
    ∃ held, runAll (([0xA7, address, kind, put8 pl.length] ++ pl ++ [hi, lo]).map (.byteReceived p)) s =
      .next (if checkBytes ([address, kind, put8 pl.length] ++ pl) = [hi, lo] then
          (s.setPort p ⟨.assembling held, none⟩).handleFrame p address kind pl
        else (s.setPort p ⟨.assembling held, none⟩).damageFrame p) := by
  obtain ⟨body, hbody⟩ : ∃ body, [address, kind, put8 pl.length] ++ pl = body := ⟨_, rfl⟩
  have hn : (put8 pl.length).toNat = pl.length := by rw [put8_toNat]; omega
  have hbodyLength : body.length = pl.length + 3 := by rw [← hbody]; simp
  have hlength : (body ++ [hi, lo]).length = (put8 pl.length).toNat + 5 := by
    rw [List.length_append, hbodyLength, hn]
    rfl
  have hsplit : [0xA7, address, kind, put8 pl.length] ++ pl ++ [hi, lo] = 0xA7 :: (body ++ [hi]) ++ [lo] := by
    rw [← hbody]
    simp
  have htake : (body ++ [hi, lo]).take (body.length + 1) = body ++ [hi] := by
    rw [show body ++ [hi, lo] = (body ++ [hi]) ++ [lo] by simp]
    exact List.take_left' (by simp)
  have hfront := runAll_front (s := s) (p := p) (frame := body ++ [hi, lo]) hop (by omega) hlength
    (by rw [← hbody]; rfl) (m := body.length + 1) (by simp)
  rw [htake] at hfront
  refine ⟨body ++ [hi], ?_⟩
  have hstart : runAll ((0xA7 :: (body ++ [hi])).map (.byteReceived p)) s =
      .next (s.setPort p ⟨.assembling (body ++ [hi]), none⟩) := by
    rw [List.map_cons, runAll, exec_byte_hunting hop hport]
    exact hfront
  have hop' : (s.setPort p ⟨.assembling (body ++ [hi]), none⟩).operating = true := (operating_setPort ..).trans hop
  rw [hsplit, List.map_append, runAll_append hstart, List.map_singleton, runAll_singleton]
  refine congrArg Host.Outcome.next ?_
  rw [receiveByte_assembling hop' (State.port_setPort_self ..), List.append_assoc]
  have hwhole := assembled_whole (s := s.setPort p ⟨.assembling (body ++ [hi]), none⟩) (p := p) (address := address)
    (kind := kind) (hi := hi) (lo := lo) hpl
  rw [hbody] at hwhole ⊢
  exact hwhole

/-! ### What a port has assembled is gone with the frame -/

theorem sendReply_setPort (s : State) (p : Port) (q : PortState) (kind : Byte) (x : Answer) :
    (s.setPort p q).sendReply p kind x = s.sendReply p kind x := by
  rw [State.sendReply, State.sendReply, State.setPort_setPort, State.setPort_stationAddress]

theorem noteWrite_setPort (s : State) (p : Port) (q : PortState) (k : RequestKind) (code : ResultCode) :
    (s.setPort p q).noteWrite p k code = (s.noteWrite p k code).setPort p q := by
  unfold State.noteWrite
  split
  · cases p <;> rfl
  · rfl

theorem hunt_setPort (h : (s.port p).reply = none) (a : Assembly) : (s.setPort p ⟨a, none⟩).hunt p = s.hunt p := by
  rw [State.hunt_eq_setPort, State.setPort_setPort, State.port_setPort_self, hunt_of_silent h]

section
variable (h : (s.port p).reply = none) (a : Assembly)
include h

theorem listening_setPort : (s.setPort p ⟨a, none⟩).listening p = s.listening p := by
  rw [State.listening, State.listening, operating_setPort, State.port_setPort_self, h]

theorem takeRequest_setPort (k : RequestKind) (pl : List Byte) :
    (s.setPort p ⟨a, none⟩).takeRequest p k pl (serveKind k p pl) = if s.listening p then
      s.takeRequest p k pl (serveKind k p pl) else s.setPort p ⟨a, none⟩ := by
  unfold State.takeRequest
  rw [listening_setPort h a, State.setPort_permitted, serveKind_setPort]
  cases s.listening p with
  | false => rfl
  | true => simp only [withPort, noteWrite_setPort, sendReply_setPort, Bool.not_true, Bool.false_eq_true, if_false, if_true]

theorem takeKind_setPort (hlisten : s.listening p = true) (kind : Byte) (pl : List Byte) :
    (s.setPort p ⟨a, none⟩).takeKind p kind pl = s.takeKind p kind pl := by
  unfold State.takeKind
  split
  · rw [takeRequest_setPort h, if_pos hlisten]
  · rw [listening_setPort h, if_pos hlisten, if_pos hlisten, sendReply_setPort]

theorem ignoreFrame_setPort (hlisten : s.listening p = true) : (s.setPort p ⟨a, none⟩).ignoreFrame p = s.ignoreFrame p := by
  rw [State.ignoreFrame, State.ignoreFrame, listening_setPort h, if_pos hlisten, if_pos hlisten, hunt_setPort h]

theorem damageFrame_setPort (hlisten : s.listening p = true) : (s.setPort p ⟨a, none⟩).damageFrame p = s.damageFrame p := by
  rw [State.damageFrame, State.damageFrame, listening_setPort h, if_pos hlisten, if_pos hlisten, hunt_setPort h]

theorem broadcastSync_setPort (hlisten : s.listening p = true) (pl : List Byte) :
    (s.setPort p ⟨a, none⟩).broadcastSync p pl = s.broadcastSync p pl := by
  have synced : ∀ tag : Word32, (((s.setPort p ⟨a, none⟩).setTimeTag tag).noteWrite p .syncTime .done).hunt p =
      ((s.setTimeTag tag).noteWrite p .syncTime .done).hunt p := by
    intro tag
    have htag : (s.setPort p ⟨a, none⟩).setTimeTag tag = (s.setTimeTag tag).setPort p ⟨a, none⟩ := by cases p <;> rfl
    rw [htag, noteWrite_setPort, hunt_setPort]
    rw [State.port_of_link (s := s) (by simp), h]
  unfold State.broadcastSync
  simp only [listening_setPort h, hlisten, hunt_setPort h, State.setPort_permitted, synced, Bool.not_true,
    Bool.false_eq_true, if_false]

theorem handleFrame_setPort (hlisten : s.listening p = true) (address kind : Byte) (pl : List Byte) :
    (s.setPort p ⟨a, none⟩).handleFrame p address kind pl = s.handleFrame p address kind pl := by
  unfold State.handleFrame
  rw [State.setPort_stationAddress, takeKind_setPort h a hlisten, broadcastSync_setPort h a hlisten,
    ignoreFrame_setPort h a hlisten]

end

/-- A whole frame is handled by its address: what its row does. -/
theorem handleFrame_is_row (s : State) (p : Port) (address kind : Byte) (pl : List Byte) :
    (.next (s.handleFrame p address kind pl) : Host.Outcome State Fault Refusal) =
      if address = s.link.stationAddress then
        match RequestKind.ofCode kind with
        | some k => exec (k.command p pl) s
        | none => exec (.unknownKindRequest p kind pl) s
      else if address = 0 ∧ kind = 0x18 then exec (.syncTime p true pl) s
      else exec (.frameIgnored p) s := by
  unfold State.handleFrame
  split
  · cases hkind : RequestKind.ofCode kind with
    | none => rfl
    | some k => simp only [State.takeKind, hkind, exec_command]
  · by_cases hsync : address = 0 ∧ kind = 0x18
    · rw [if_pos hsync, if_pos (by rw [Bool.and_eq_true, decide_eq_true_eq, decide_eq_true_eq]; exact hsync)]
      rfl
    · rw [if_neg hsync, if_neg (by rw [Bool.and_eq_true, decide_eq_true_eq, decide_eq_true_eq]; exact hsync)]
      rfl

theorem wholeFrameIsItsRow : WholeFrameIsItsRow := by
  intro p s address kind pl hop hport hpl _
  have hreply := port_assembling hport
  obtain ⟨held, hrun⟩ := runAll_frame (address := address) (kind := kind)
    (hi := (crc ([address, kind, put8 pl.length] ++ pl)).extractLsb' 8 8)
    (lo := (crc ([address, kind, put8 pl.length] ++ pl)).extractLsb' 0 8) hop hport hpl
  rw [if_pos (by rfl), handleFrame_setPort hreply _ (listening_of hop hreply)] at hrun
  exact hrun.trans (handleFrame_is_row s p address kind pl)

theorem badCheckDamagesFrame : BadCheckDamagesFrame := by
  intro p s address kind hi lo pl hop hport hpl hcheck
  have hreply := port_assembling hport
  obtain ⟨held, hrun⟩ := runAll_frame (address := address) (kind := kind) (hi := hi) (lo := lo) hop hport hpl
  have hdiffer : checkBytes ([address, kind, put8 pl.length] ++ pl) ≠ [hi, lo] := by
    intro hsame
    refine hcheck ?_
    obtain ⟨rfl, hlo⟩ := List.cons.inj hsame
    obtain ⟨rfl, -⟩ := List.cons.inj hlo
    exact extract_append16 _
  rw [if_neg hdiffer, damageFrame_setPort hreply _ (listening_of hop hreply)] at hrun
  exact hrun

/-- Settles O6: the bytes before the last are collected, and the last one's event is the frame's. -/
theorem frameBytesAreTheFramesRow : Obligations.FrameBytesAreTheFramesRow := ⟨wholeFrameIsItsRow, badCheckDamagesFrame⟩

end Sys2Proof.Machine
end

section
/-! PROOF. Requests (R158, R170 to R172): the reply, the order of the checks, what a request leaves unchanged, and the permission table. -/

namespace Sys2Proof.Machine

variable {s t : State} {p : Port} {k : RequestKind} {pl reply : List Byte} {code : ResultCode}

/-! ### The reply (R167, R170) -/

theorem replyKind_code (k : RequestKind) : replyKind k.code = k.code + 0x80 :=
  replyKind_of_low (by cases k <;> decide)

/-- Settles O7: the reply is the frame of the answer's bytes, and the answer writes the port and MAINT_WRITE alone. -/
theorem replyLayout : Obligations.ReplyLayout := by
  intro s p k code data _ body
  have hport : (s.replied p k code data).port p = ⟨.hunting, some (replyFrame s.link.stationAddress k.code ⟨code, data⟩)⟩ := by
    rw [State.replied, State.sendReply, State.port_setPort_self, State.noteWrite_link]
  refine ⟨?_, ?_⟩
  · rw [hport, replyFrame, replyKind_code]
    rfl
  · rw [hport]
    unfold State.replied State.sendReply
    rw [State.noteWrite_link]
    unfold State.noteWrite
    split
    · exact ⟨true, by cases p <;> rfl⟩
    · exact ⟨s.notices.flags.maintWrite, rfl⟩

theorem replyCode_sendReply (s : State) (p : Port) (kind : Byte) (x : Answer) (h : ((s.sendReply p kind x).port p).reply = some reply) :
    replyCode reply = some (resultByte x.code) := by
  rw [State.sendReply, State.port_setPort_self] at h
  obtain rfl := Option.some.inj h
  rfl

theorem resultByte_eq_zero_iff : resultByte code = 0 ↔ code = .done := by cases code <;> decide

/-! ### The checks (R170 to R172) -/

/-- Settles O8. -/
theorem requestChecks : Obligations.RequestChecks := by
  intro k p pl s hop
  refine ⟨fun hreply => ?_, fun hreply => ⟨fun hp hpermit => ?_, fun hpermit hlen => ?_⟩⟩
  · rw [exec_command, State.takeRequest, not_listening_of_reply hreply]
    rfl
  · rw [exec_command, State.takeRequest, listening_of hop hreply, hp, hpermit]
    rfl
  · exact exec_of_badLength ⟨hop, hreply, hpermit⟩ hlen

/-! ### What a request leaves unchanged (R158, R170) -/

theorem noteWrite_of_not_done (h : code ≠ .done) : s.noteWrite p k code = s :=
  if_neg (by simp [h])

theorem noteWrite_of_read (h : p = .control ∨ isReadKind k = true) : s.noteWrite p k code = s :=
  if_neg (by rcases h with rfl | h <;> simp [*])

/-- What a request does: nothing, a refusal before its owner, or its owner's answer. -/
theorem exec_command_cases (h : exec (k.command p pl) s = .next t) :
    t = s ∨ (∃ code, code ≠ .done ∧ t = s.sendReply p k.code ⟨code, []⟩)
    ∨ ∃ x u, x = (serveKind k p pl s).1 ∧ Served k s x.code u ∧ t = (u.noteWrite p k x.code).sendReply p k.code x := by
  rw [exec_command] at h
  obtain rfl := Host.Outcome.next.inj h
  rcases takeRequest_cases s p k pl (serveKind k p pl) with
    ⟨e, -⟩ | ⟨-, ⟨-, -, e⟩ | ⟨-, e⟩ | ⟨-, -, e⟩⟩
  · exact .inl e
  · exact .inr (.inl ⟨.permit, by decide, e⟩)
  · exact .inr (.inl ⟨.format, by decide, e⟩)
  · exact .inr (.inr ⟨_, _, rfl, serveKind_served k p pl s, e⟩)

/-- A state that a reply alone tells from another is it with the port replaced. -/
theorem sendReply_eq_setPort (kind : Byte) (x : Answer) (h : t = s.sendReply p kind x) : t = s.setPort p (t.port p) := by
  subst h
  rw [State.sendReply, State.port_setPort_self]

theorem refusalChangesNothing : RefusalChangesNothing := by
  intro k p pl s t reply ht hreply hcode
  rcases exec_command_cases ht with rfl | ⟨code, -, he⟩ | ⟨x, u, -, hserved, he⟩
  · exact (State.setPort_port ..).symm
  · exact sendReply_eq_setPort _ _ he
  · have hdone : x.code ≠ .done := by
      intro hdone
      rw [he] at hreply
      exact hcode ((replyCode_sendReply _ _ _ _ hreply).trans (by rw [hdone]; rfl))
    obtain rfl := hserved.eq_of_not_done hdone
    rw [noteWrite_of_not_done hdone] at he
    exact sendReply_eq_setPort _ _ he

theorem readsChangeOnlyTheirPort : ReadsChangeOnlyTheirPort := by
  intro k p pl s t hread ht
  rw [exec_command] at ht
  obtain rfl := Host.Outcome.next.inj ht
  rcases takeRequest_cases s p k pl (serveKind k p pl) with
    ⟨e, -⟩ | ⟨-, ⟨-, -, e⟩ | ⟨-, e⟩ | ⟨-, -, e⟩⟩
  · rw [e, State.setPort_port]
  · exact sendReply_eq_setPort _ _ e
  · exact sendReply_eq_setPort _ _ e
  · rw [serveKind_read hread, noteWrite_of_read (.inr hread)] at e
    exact sendReply_eq_setPort _ _ e

/-- Settles O9. -/
theorem refusalsAndReadsChangeOnlyTheirPort : Obligations.RefusalsAndReadsChangeOnlyTheirPort :=
  ⟨refusalChangesNothing, readsChangeOnlyTheirPort⟩

/-! ### MAINT_WRITE (R158) -/

/-- The MAINT_WRITE flag is as given. -/
def MaintWriteIs (b : Bool) (s : State) : Prop := s.notices.flags.maintWrite = b

theorem offer_maintWrite (u : NoticeUnit) (e : QueueEntry) : (u.offer e).flags.maintWrite = u.flags.maintWrite := by
  unfold NoticeUnit.offer
  (repeat' split) <;> rfl

theorem arrive_maintWrite (tag : Word32) (u : NoticeUnit) (n : Notice) :
    (u.arrive tag n).flags.maintWrite = u.flags.maintWrite := by
  unfold NoticeUnit.arrive
  dsimp only
  split
  · rfl
  · exact offer_maintWrite u _

theorem unmask_maintWrite (u : NoticeUnit) (kind : NoticeKind) : (u.unmask kind).flags.maintWrite = u.flags.maintWrite := by
  unfold NoticeUnit.unmask
  dsimp only
  split
  · exact offer_maintWrite _ _
  · rfl
  · rfl

theorem stateFlowClosed_maintWriteIs (b : Bool) : StateFlowClosed (MaintWriteIs b) where
  transit _ _ hs := hs
  draws _ _ hs := hs
  logged _ _ hs := hs
  arrived s n hs := (arrive_maintWrite s.op.timeTag s.notices n).trans hs

theorem eventClosed_maintWriteIs (b : Bool) : EventClosed (MaintWriteIs b) where
  toStateFlowClosed := stateFlowClosed_maintWriteIs b
  outstanding _ _ hs := hs
  asked _ _ hs := hs
  delivered s scan _ hs := by
    unfold State.imageArrives
    dsimp only
    split
    · exact hs
    · exact hs
    · exact (stateFlowClosed_maintWriteIs b).emit _ _ hs
  card _ _ _ _ hs := hs
  due _ _ hs := hs
  opened _ hs := hs
  reading s c r _ hs := by
    unfold State.giveReading
    dsimp only
    split
    · exact (stateFlowClosed_maintWriteIs b).emit _ _ hs
    · exact hs

theorem Served.maintWrite (h : Served k s code t) (hk : k ≠ .conditionsTake) :
    t.notices.flags.maintWrite = s.notices.flags.maintWrite := by
  have hclosed := eventClosed_maintWriteIs s.notices.flags.maintWrite
  cases h with
  | conditions => exact absurd rfl hk
  | started => exact hclosed.beginScan _ rfl
  | resumed => exact hclosed.beginScan _ rfl
  | unmask _ kind => exact unmask_maintWrite _ kind
  | _ => rfl

/-- Settles O10: the flag is written where a maintenance write is answered, and the owners leave it. -/
theorem maintWriteMarksMaintenanceWrites : Obligations.MaintWriteMarksMaintenanceWrites := by
  refine ⟨fun k pl s t reply hop hsilent hread ht hreply hcode => ?_, fun k p pl s t hk hquiet ht => ?_⟩
  · rcases exec_command_cases ht with rfl | ⟨code, hcode', rfl⟩ | ⟨x, u, -, -, rfl⟩
    · exact nomatch hsilent.symm.trans hreply
    · have hzero := (replyCode_sendReply _ _ _ _ hreply).symm.trans hcode
      exact absurd (resultByte_eq_zero_iff.1 (Option.some.inj hzero)) hcode'
    · have hzero := (replyCode_sendReply _ _ _ _ hreply).symm.trans hcode
      have hdone : x.code = .done := resultByte_eq_zero_iff.1 (Option.some.inj hzero)
      rw [State.sendReply_notices, State.noteWrite, if_pos (by simp [hread, hdone])]
      rfl
  · rcases exec_command_cases ht with rfl | ⟨code, -, rfl⟩ | ⟨x, u, -, hserved, rfl⟩
    · rfl
    · rw [State.sendReply_notices]
    · rw [State.sendReply_notices, noteWrite_of_read hquiet]
      exact hserved.maintWrite hk

/-! ### PERMIT_SET (R172) -/

theorem ofCode_permitSet : RequestKind.ofCode 0x58 = some .permitSet := by decide

theorem ofCode_eq_permitSet_iff {b : Byte} : RequestKind.ofCode b = some .permitSet ↔ b = 0x58 := by
  refine ⟨fun h => ?_, fun h => h ▸ ofCode_permitSet⟩
  have hcode := List.find?_some h
  exact (beq_iff_eq.1 hcode).symm

theorem servePermitSet_done {c flag : Byte} (hc : RequestKind.ofCode c = some k) (hflag : flag.toNat ≤ 1)
    (hself : k = .permitSet → flag = 0) : servePermitSet [c, flag] s = answer .done
      { s with link := { s.link with permits := upd s.link.permits (kindIndex k) fun _ => flag == 1 } } := by
  have hyes : yesNo (u8 [c, flag] 1) = some (flag == 1) := yesNo_of_le hflag
  have hallowed : ¬ (k = .permitSet ∧ (flag == 1) = true) := by
    rintro ⟨hk, hone⟩
    rw [hself hk] at hone
    exact absurd hone (by decide)
  unfold servePermitSet
  simp only [List.getD_cons_zero, hc, hyes]
  rw [if_neg (by simpa using hallowed)]

theorem servePermitSet_range {c flag : Byte} (h : RequestKind.ofCode c = none ∨ 1 < flag.toNat ∨ (c = 0x58 ∧ flag = 1)) :
    servePermitSet [c, flag] s = answer .range s := by
  have hu8 : u8 [c, flag] 1 = flag.toNat := rfl
  unfold servePermitSet
  simp only [List.getD_cons_zero, hu8]
  rcases h with hc | hflag | ⟨rfl, rfl⟩
  · rw [hc]
  · rw [yesNo_none.2 hflag]
    cases RequestKind.ofCode c <;> rfl
  · rw [ofCode_permitSet]
    rfl

/-- Settles O13. -/
theorem permitSetWritesOneEntry : Obligations.PermitSetWritesOneEntry := by
  intro c flag s hop hsilent
  have htakes : s.takes .control .permitSet := ⟨hop, hsilent, .inl rfl⟩
  refine ⟨fun k hc hflag hself => ?_, fun h => exec_of_range htakes rfl (servePermitSet_range h)⟩
  refine ⟨_, exec_of_done htakes rfl (servePermitSet_done hc hflag hself), ?_, fun j hj => ?_, rfl⟩
  · rw [Link.permitted, permits_upd_get, if_pos rfl]
  · rw [Link.permitted, permits_upd_get, if_neg hj.symm]
    rfl

end Sys2Proof.Machine
end

section
/-! PROOF. The length of a reply (R167): a payload of at most 240 bytes, its result code and what an owner answers with it. -/

namespace Sys2Proof.Machine

variable {s t : State} {p : Port} {k : RequestKind} {pl : List Byte}

/-! ### The bytes of what a reply shows -/


/-- Parts of at most `m` bytes each, one after another. -/
theorem length_flatMap_le {α : Type} {f : α → List Byte} {m : Nat} (h : ∀ x, (f x).length ≤ m) (l : List α) :
    (l.flatMap f).length ≤ l.length * m := by
  induction l with
  | nil => simp
  | cons x l ih =>
    have hx := h x
    rw [List.flatMap_cons, List.length_append, List.length_cons, Nat.succ_mul]
    omega

theorem length_cellRecordBytes (n : Nat) (f : Byte) (c : CellState) : (cellRecordBytes n f c).length = 16 := rfl
theorem length_summaryBytes (p : PassNo) (m : Summary) : (summaryBytes p m).length = 26 := rfl
theorem length_stationEntryBytes (e : StationEntry) : (stationEntryBytes e).length = 5 := rfl
theorem length_recordBytes (r : Record) : (recordBytes r).length = 19 := rfl
theorem length_noticeBytes (e : QueueEntry) : (noticeBytes e).length = 9 := rfl

/-- A run of MAP_READ holds at most the number of stations that was asked. -/
theorem length_run_le (m : PublishedMap) (p : PassNo) (first n : Nat) : (m.run p first n).length ≤ n := by
  have hnodup : (((List.finRange 32).filter fun t => first ≤ t.val && t.val < first + n).map Fin.val).Nodup :=
    ((List.nodup_finRange 32).filter _).map Fin.val_injective
  have hsubset : ((List.finRange 32).filter fun t => first ≤ t.val && t.val < first + n).map Fin.val ⊆ List.range' first n := by
    intro x hx
    obtain ⟨t, ht, rfl⟩ := List.mem_map.1 hx
    have hbounds := (List.mem_filter.1 ht).2
    rw [Bool.and_eq_true, decide_eq_true_eq, decide_eq_true_eq] at hbounds
    exact List.mem_range'_1.2 hbounds
  have hle := (hnodup.subperm hsubset).length_le
  rw [List.length_map, List.length_range'] at hle
  rwa [PublishedMap.run, List.length_map]

theorem length_logRun_le (l : Log) (d n : Nat) : (l.run d n).length ≤ n :=
  (List.length_filterMap_le _ _).trans_eq List.length_range

theorem length_takeEntries_le (n : Nat) (queue : List QueueEntry) : (takeEntries n queue).1.length ≤ n := by
  induction n generalizing queue with
  | zero => exact le_refl _
  | succ n ih =>
    unfold takeEntries
    split
    · exact Nat.zero_le _
    · exact Nat.succ_le_succ (ih _)

theorem length_permittedKinds_le (l : Link) : l.permittedKinds.length ≤ 37 := List.length_filter_le _ _

/-! ### What the owners answer -/

/-- What an owner answers fits the frame beside the result code. -/
def Fits (x : Answer × State) : Prop := x.1.data.length ≤ 239

theorem fits_answer (code : ResultCode) (s : State) : Fits (answer code s) := Nat.zero_le _

theorem fits_identify : Fits (serveIdentify p s) := by
  have hle := length_permittedKinds_le s.link
  simp only [Fits, serveIdentify, doneWith, List.length_append, put16_length, List.length_cons, List.length_nil,
    List.length_map]
  omega

theorem fits_status : Fits (serveStatus s) := (by decide : 17 ≤ 239)

theorem fits_channelGet : Fits (serveChannelGet pl s) := by
  unfold serveChannelGet
  split
  · exact (by decide : 13 ≤ 239)
  · exact fits_answer _ _

theorem fits_channelStatus : Fits (serveChannelStatus pl s) := by
  unfold serveChannelStatus
  split
  · exact (by decide : 13 ≤ 239)
  · exact fits_answer _ _

theorem fits_cardStatus : Fits (serveCardStatus pl s) := by
  unfold serveCardStatus
  split
  · exact (by decide : 9 ≤ 239)
  · exact fits_answer _ _

theorem fits_cellGet : Fits (serveCellGet pl s) := by
  unfold serveCellGet
  split
  · exact fits_answer _ _
  · exact (by decide : 30 ≤ 239)

theorem fits_zoneGet : Fits (serveZoneGet pl s) := by
  unfold serveZoneGet
  split
  · exact fits_answer _ _
  · exact (by decide : 21 ≤ 239)

theorem fits_start : Fits (serveStart s) := by
  unfold serveStart
  split
  · exact fits_answer _ _
  · split
    next a ha =>
      unfold startRefusal at ha
      split at ha
      · cases ha
        exact (by decide : 3 ≤ 239)
      · obtain ⟨c, -, rfl⟩ := Option.map_eq_some_iff.1 ha
        exact (by decide : 3 ≤ 239)
    · exact fits_answer _ _

theorem fits_curveGet (h : ∀ n : Fin 4, CurveLaw s.input.curves[n]) : Fits (serveCurveGet pl s) := by
  unfold serveCurveGet
  split
  next n _ =>
    have hlength : s.input.curves[n].length ≤ 12 := by
      rcases h n with hempty | ⟨-, hlength, -⟩
      · rw [hempty]
        exact Nat.zero_le _
      · exact hlength
    have hbytes := length_flatMap_le (f := fun b : Breakpoint => put32 (BitVec.ofInt 32 b.emf) ++ put16 b.temp) (m := 6)
      (fun _ => le_refl _) s.input.curves[n]
    simp only [Fits, doneWith, curveGetBytes, List.length_append, List.length_cons, List.length_nil]
    omega
  · exact fits_answer _ _

theorem fits_mapRead : Fits (serveMapRead pl s) := by
  unfold serveMapRead
  split
  · exact fits_answer _ _
  next p _ =>
    dsimp only
    split
    · exact fits_answer _ _
    · have hcount : s.map.published.runLength p (u8 pl 1) (u8 pl 2) ≤ 12 := by
        unfold PublishedMap.runLength
        omega
      have hrun := length_run_le s.map.published p (u8 pl 1) (s.map.published.runLength p (u8 pl 1) (u8 pl 2))
      have hbytes := length_flatMap_le (f := fun x : Nat × CellState => cellRecordBytes x.1 (cellFlagsByte x.2.flags) x.2)
        (m := 16) (fun _ => le_refl _) (s.map.published.run p (u8 pl 1) (s.map.published.runLength p (u8 pl 1) (u8 pl 2)))
      simp only [Fits, doneWith, List.length_append, put32_length, List.length_cons, List.length_nil]
      omega

theorem fits_passSummary : Fits (servePassSummary pl s) := by
  unfold servePassSummary
  split
  · exact fits_answer _ _
  next ps hps =>
    have hlength : ps.length ≤ 4 := by
      unfold selectedPasses at hps
      split at hps
      · cases hps
        exact le_refl _
      · obtain ⟨p, -, rfl⟩ := Option.map_eq_some_iff.1 hps
        exact (by decide : 1 ≤ 4)
    have hbytes := length_flatMap_le (f := fun p => summaryBytes p s.map.published.summaries[p]) (m := 26)
      (fun _ => le_refl _) ps
    simp only [Fits, doneWith]
    omega

theorem fits_trendRead (h : TrendLaw s.trend) : Fits (serveTrendRead pl s) := by
  unfold serveTrendRead
  split
  · exact fits_answer _ _
  next p _ =>
    split
    · exact fits_answer _ _
    next f hf =>
      dsimp only
      split
      · exact fits_answer _ _
      · have hentries : f.entries.length ≤ 32 := by
          have hstored : u8 pl 1 < storedFrames s.trend.passes[p] := by
            by_contra hnot
            rw [Trend.frameOfAge, if_neg hnot] at hf
            exact nomatch hf
          obtain ⟨-, -, -, hframes⟩ := h
          obtain ⟨g, hg, -, hlength, -⟩ := hframes p _ hstored
          exact Option.some.inj (hg.symm.trans hf) ▸ hlength
        have hbytes := length_flatMap_le (f := stationEntryBytes) (m := 5) (fun _ => le_refl _)
          ((f.entries.drop (u8 pl 2)).take (min (u8 pl 3) (f.summary.stations - u8 pl 2)))
        have htaken := List.length_take_le' (min (u8 pl 3) (f.summary.stations - u8 pl 2)) (f.entries.drop (u8 pl 2))
        rw [List.length_drop] at htaken
        have hstatistics : (statisticsBytes f.summary).length = 14 := rfl
        simp only [Fits, doneWith, trendReadBytes, List.length_append, put32_length, hstatistics, List.length_cons,
          List.length_nil]
        omega

theorem fits_logRead : Fits (serveLogRead pl s) := by
  have hposition : s.log.positionBytes.length = 4 := rfl
  unfold serveLogRead
  dsimp only
  split
  · obtain ⟨n, hn, hle⟩ : ∃ n, min (min (u8 pl 2) 8) (s.log.count - s.log.distance (u16 pl 0)) = n ∧ n ≤ 8 :=
      ⟨_, rfl, by omega⟩
    have hrun := length_logRun_le s.log (s.log.distance (u16 pl 0)) n
    have hbytes := length_flatMap_le (f := recordBytes) (m := 19) (fun _ => le_refl _)
      (s.log.run (s.log.distance (u16 pl 0)) n)
    simp only [Fits, doneWith, hn, List.length_append, hposition, List.length_cons, List.length_nil]
    omega
  · split
    · exact (by decide : 5 ≤ 239)
    · split <;> exact (by decide : 4 ≤ 239)

theorem fits_noticeTake : Fits (serveNoticeTake pl s) := by
  have htaken := length_takeEntries_le (min (u8 pl 0) 4) s.notices.queue
  have hbytes := length_flatMap_le (f := noticeBytes) (m := 9) (fun _ => le_refl _)
    (takeEntries (min (u8 pl 0) 4) s.notices.queue).1
  simp only [Fits, serveNoticeTake, doneWith, List.length_append, List.length_cons, List.length_nil]
  omega

/-- Every owner's answer fits the frame, the configuration and the Trend Store obeying their laws: those of the writes
answer a code alone, but for the item of a refused START. -/
theorem fits_serveKind (hsettings : SettingsLaw s) (htrend : TrendLaw s.trend) : Fits (serveKind k p pl s) := by
  cases k
  case identify => exact fits_identify
  case status => exact fits_status
  case conditionsTake => exact (by decide : 1 ≤ 239)
  case start => exact fits_start
  case channelGet => exact fits_channelGet
  case channelStatus => exact fits_channelStatus
  case curveGet => exact fits_curveGet hsettings.curves
  case cardStatus => exact fits_cardStatus
  case cellGet => exact fits_cellGet
  case zoneGet => exact fits_zoneGet
  case mapRead => exact fits_mapRead
  case passSummary => exact fits_passSummary
  case trendRead => exact fits_trendRead htrend
  case logRead => exact fits_logRead
  case noticeTake => exact fits_noticeTake
  all_goals
    simp only [serveKind, serveStop, servePause, serveResume, serveRestart, serveSyncTime, serveTimeResSet, serveScanSet,
      serveChannelSet, serveChannelEnable, serveCurveSet, serveCardSet, servePassSet, serveCellBind, serveZoneSet,
      serveHoldPass, serveReleasePass, writeHold, serveClearPeaks, serveTrendSet, serveLogClear, serveNoticeMaskSet,
      serveAttentionSet, servePermitSet]
    (repeat' split) <;> exact fits_answer _ _

/-! ### The frame -/

theorem length_replyFrame (address kind : Byte) (x : Answer) : (replyFrame address kind x).length = 7 + x.data.length := by
  simp only [replyFrame, frameBytes, checkBytes, List.length_append, List.length_cons, List.length_nil]
  omega

/-- A reply that stands on a port after a command was there before, or was started by a refusal or an answer that fits. -/
theorem PortEffect.reply_fits (h : PortEffect p s t) (hsilent : (s.port p).reply = none) (hsettings : SettingsLaw s)
    (htrend : TrendLaw s.trend) {reply : List Byte} (hreply : (t.port p).reply = some reply) : reply.length ≤ 246 := by
  have sent : ∀ {u : State} {kind : Byte} {x : Answer}, x.data.length ≤ 239 →
      ((u.sendReply p kind x).port p).reply = some reply → reply.length ≤ 246 := by
    intro u kind x hx hr
    rw [State.sendReply, State.port_setPort_self] at hr
    obtain rfl := Option.some.inj hr
    rw [length_replyFrame]
    omega
  have kept : ∀ {u : State} {a : Assembly}, ((u.setPort p ⟨a, (s.port p).reply⟩).port p).reply ≠ some reply := by
    intro u a
    rw [State.port_setPort_self, hsilent]
    exact nofun
  cases h with
  | unchanged => exact nomatch hsilent.symm.trans hreply
  | assembly a => exact absurd hreply kept
  | damaged => exact absurd ((congrArg PortState.reply (State.port_of_link rfl p)).symm.trans hreply) (kept (u := s))
  | refused => exact sent (Nat.zero_le _) hreply
  | synced tag =>
    rw [State.hunt_eq_setPort, State.port_setPort_self, State.port_of_link (s := s) (by simp)] at hreply
    exact nomatch hsilent.symm.trans hreply
  | ended =>
    rw [State.port_setPort_self] at hreply
    exact nomatch hreply
  | served k pl => exact sent (fits_serveKind hsettings htrend) hreply

/-- Settles O12. -/
theorem repliesFitTheFrame : Obligations.RepliesFitTheFrame := by
  intro c p s t reply hsettings htrend ht hsilent hreply
  have unchanged : t.port p = s.port p → reply.length ≤ 246 := by
    intro hport
    rw [hport, hsilent] at hreply
    exact nomatch hreply
  rcases exec_cases ht with hsupply | ⟨q, -, heffect⟩ | ⟨-, -, ⟨-, rfl⟩ | ⟨-, hevent⟩⟩
  · have silent : (t.port p).reply = none := by
      cases c <;> simp only [Instr.isSupplyRow, Bool.false_eq_true] at hsupply
      case resetPinRelease straps =>
        obtain rfl := Host.Outcome.next.inj ht
        split
        · cases p <;> rfl
        · exact hsilent
      case powerOn straps =>
        obtain rfl := Host.Outcome.next.inj ht
        cases p <;> rfl
      case powerLoss =>
        obtain rfl := Host.Outcome.next.inj ht
        cases p <;> rfl
      case resetPinAssert =>
        obtain rfl := Host.Outcome.next.inj ht
        cases p <;> exact hsilent
    exact nomatch silent.symm.trans hreply
  · by_cases hq : q = p
    · subst hq
      exact heffect.reply_fits hsilent hsettings htrend hreply
    · exact unchanged (heffect.frame.2 hq)
  · exact unchanged rfl
  · exact unchanged (State.port_of_link hevent.sameShell.2.2.1 p)

end Sys2Proof.Machine
end

section
/-! PROOF. The opening of a scan (R21, R28, R31 to R33, R37): on the enabled channels with the first request, or on an empty list that closes at once; RESUME and the interval timer's expiry. -/

namespace Sys2Proof.Machine

variable {s t : State} {c d : ChannelNo} {k : CardNo} {v : Vector ChannelEntry 96}

/-! ### The scan list (R31) -/

theorem mem_scanList : c ∈ scanList v ↔ v[c].enabled = true := by
  simp [scanList]

theorem scanList_congr {v w : Vector ChannelEntry 96} (h : ∀ c : ChannelNo, w[c].enabled = v[c].enabled) :
    scanList w = scanList v := List.filter_congr fun c _ => h c

theorem scanList_eq_nil (h : ∀ d : ChannelNo, v[d].enabled = false) : scanList v = [] := by
  refine List.eq_nil_iff_forall_not_mem.2 fun d hd => ?_
  rw [mem_scanList, h d] at hd
  exact nomatch hd

/-- The first enabled channel heads the scan list. -/
theorem scanList_eq_cons (hc : v[c].enabled = true) (hfirst : ∀ d < c, v[d].enabled = false) :
    ∃ rest, scanList v = c :: rest := by
  have hmem : c ∈ scanList v := mem_scanList.2 hc
  have hsorted := scanList_pairwise v
  cases hl : scanList v with
  | nil =>
    rw [hl] at hmem
    exact nomatch hmem
  | cons x rest =>
    rw [hl] at hmem hsorted
    rcases List.mem_cons.1 hmem with rfl | hrest
    · exact ⟨rest, rfl⟩
    · have hx : v[x].enabled = true := mem_scanList.1 (hl ▸ List.mem_cons_self ..)
      have hlt := (List.pairwise_cons.1 hsorted).1 c hrest
      rw [hfirst x hlt] at hx
      exact nomatch hx

theorem cardNamed_iff : cardNamed v k = true ↔ ∃ c : ChannelNo, v[c].enabled = true ∧ v[c].card = k := by
  simp [cardNamed, mem_scanList]

theorem cardNamed_eq_false_iff : cardNamed v k = false ↔ ∀ c : ChannelNo, v[c].enabled = true → v[c].card ≠ k := by
  rw [Bool.eq_false_iff, Ne, cardNamed_iff]
  exact ⟨fun h c hc hk => h ⟨c, hc, hk⟩, fun h ⟨c, hc, hk⟩ => h c hc hk⟩

theorem cardNamed_congr {v w : Vector ChannelEntry 96}
    (h : ∀ c : ChannelNo, w[c].enabled = v[c].enabled ∧ w[c].card = v[c].card) : cardNamed w k = cardNamed v k := by
  rw [Bool.eq_iff_iff, cardNamed_iff, cardNamed_iff]
  exact exists_congr fun c => by rw [(h c).1, (h c).2]

/-! ### The enable field and the cards at the open of a scan (R21, R28) -/

theorem applyEnable_eq (number : Word32) (e : ChannelEntry) : applyEnable number e = EnableApplied number e := by
  unfold applyEnable EnableApplied
  cases e.enabled <;> by_cases h : e.health = .disabled <;> simp [h]

theorem applyEnable_enabled (number : Word32) (e : ChannelEntry) : (applyEnable number e).enabled = e.enabled := by
  unfold applyEnable
  (repeat' split) <;> rfl

theorem applyEnable_card (number : Word32) (e : ChannelEntry) : (applyEnable number e).card = e.card := by
  unfold applyEnable
  (repeat' split) <;> rfl

theorem openScan_channel (s : State) (d : ChannelNo) :
    s.openScan.input.channels[d] = applyEnable (nextScanNumber s.input.scanNumber) s.input.channels[d] := by
  rw [State.openScan_input_channels, Fin.getElem_fin, tab_get]

theorem scanList_openScan (s : State) : scanList s.openScan.input.channels = scanList s.input.channels :=
  scanList_congr fun c => by rw [openScan_channel, applyEnable_enabled]

theorem cardNamed_openScan (s : State) (k : CardNo) : cardNamed s.openScan.input.channels k = cardNamed s.input.channels k :=
  cardNamed_congr fun c => by rw [openScan_channel]; exact ⟨applyEnable_enabled _ _, applyEnable_card _ _⟩

theorem openScan_card (s : State) (k : CardNo) : s.openScan.input.cards[k] =
    { s.input.cards[k] with
      presence := openPresence (cardNamed s.input.channels k) s.input.cards[k].presence, lostInScan := false } := by
  rw [State.openScan_input_cards, Fin.getElem_fin, tab_get, cardNamed_openScan]

theorem openPresence_named (p : Presence) : openPresence true p = if p = .unused then .unknown else p := rfl

theorem openPresence_unnamed (p : Presence) : openPresence false p = .unused := rfl

/-! ### The first request, or the close of an empty scan (R33, R37) -/

theorem beginScan_cons {rest : List ChannelNo} (h : scanList s.input.channels = c :: rest) :
    s.beginScan = s.openScan.sendFor c := by
  unfold State.beginScan
  dsimp only
  rw [scanList_openScan, h]

theorem beginScan_nil (h : scanList s.input.channels = []) : s.beginScan = s.openScan.deliverImage := by
  unfold State.beginScan
  dsimp only
  rw [scanList_openScan, h]

theorem requestFor_of_not_asked {scan : OpenScan} {e : ChannelEntry} (h : scan.asked[e.card] = false) :
    requestFor scan e = .coldJunction e.card := by
  rw [requestFor, h]
  rfl

theorem sendFor_waits {o : Outstanding} (h : s.input.outstanding = some o) : s.sendFor c = s := by
  unfold State.sendFor
  rw [h]
  cases s.input.scan <;> rfl

/-- With an enabled channel a scan opens on them, and nothing else but its timer and the Input Processor moves. -/
theorem beginScan_opens (hc : s.input.channels[c].enabled = true) (hfirst : ∀ d < c, s.input.channels[d].enabled = false) :
    ScanOpened c s s.beginScan
      ∧ s.beginScan = { s with op := { s.op with timer := s.beginScan.op.timer }, input := s.beginScan.input } := by
  obtain ⟨rest, hlist⟩ := scanList_eq_cons hc hfirst
  rw [beginScan_cons hlist]
  refine ⟨⟨?_, ?_, fun d => ?_, fun k => ⟨?_, fun hnamed => ?_, fun hfree => ?_⟩, ?_, fun hnone => ?_, fun o ho => ?_,
    by simp, by simp, by simp⟩, ?_⟩
  · rw [State.sendFor_input_scanNumber, State.openScan_input_scanNumber, nextScanNumber]
  · rw [State.sendFor_op, State.openScan_op]
  · rw [State.sendFor_input_channels, State.sendFor_input_scanNumber, State.openScan_input_scanNumber, openScan_channel,
      applyEnable_eq]
  · rw [State.sendFor_input_cards, openScan_card]
  · rw [State.sendFor_input_cards, openScan_card, cardNamed_iff.2 hnamed]
    exact openPresence_named s.input.cards[k].presence
  · rw [State.sendFor_input_cards, openScan_card, cardNamed_eq_false_iff.2 hfree]
    exact openPresence_unnamed s.input.cards[k].presence
  · rw [State.sendFor_input_scan, State.openScan_input_scan]
    refine ⟨_, rfl, by simp, rfl, rfl, scanList_openScan s, fun d => ?_, fun k => ?_⟩
    · exact fill_get _ _ _
    · exact fill_get _ _ _
  · rw [State.sendFor_scanning c (State.openScan_input_scan s) hnone, requestFor_of_not_asked (fill_get _ _ _),
      openScan_channel, applyEnable_card]
    rfl
  · have ho' : s.openScan.input.outstanding = some o := ho
    rw [sendFor_waits ho', ho']
  · apply State.eq_of_fields <;> simp

theorem closedImage_disabled {scan : OpenScan} (h : ∀ d : ChannelNo, scan.readings[d] = none) (d : ChannelNo) :
    (closedImage scan).readings[d] = ⟨.disabled, none, false, false, false⟩ := by
  rw [closedImage]
  dsimp only
  rw [Fin.getElem_fin, tab_get, show scan.readings[(⟨d.val, d.isLt⟩ : ChannelNo)] = none from h d]
  rfl

/-- An emission reads neither the Input Processor nor the timer. -/
theorem emit_one_congr {op : Operating} (htag : op.timeTag = s.op.timeTag) (x : Input) (sent : Sent) :
    State.emit { s with op := op, input := x } [sent] = { s.emit [sent] with op := op, input := x } := by
  show State.settle { s with op := op, input := x } _ = _
  unfold State.settle
  dsimp only
  rw [htag]
  rfl

/-- The arrival of an image reads neither the Input Processor nor the timer. -/
theorem imageArrives_congr {op : Operating} (htag : op.timeTag = s.op.timeTag) (x : Input) (image : ScanImage) :
    State.imageArrives { s with op := op, input := x } image = { s.imageArrives image with op := op, input := x } := by
  unfold State.imageArrives
  dsimp only
  split
  · rfl
  · rfl
  next old _ _ =>
    exact emit_one_congr (s := { s with map := { s.map with
      waiting := some ⟨image, s.map.resumeMarker || old.resume⟩, resumeMarker := false } }) htag x _

/-- With no enabled channel the scan opens on an empty list and closes at once. -/
theorem beginScan_empty (h : ∀ d : ChannelNo, s.input.channels[d].enabled = false) : EmptyScanTaken s s.beginScan := by
  have hscan := State.openScan_input_scan s
  rw [beginScan_nil (scanList_eq_nil h), State.deliverImage, hscan]
  dsimp only
  have harrives := imageArrives_congr (s := s) (op := s.openScan.op) rfl (s.openScan.setScan .waiting).input
    (closedImage ⟨nextScanNumber s.input.scanNumber, s.op.timeTag, s.input.interval,
      scanList s.openScan.input.channels, fill 6 false, fill 96 none⟩)
  have hcards : s.openScan.input.cards = tab fun k => { s.input.cards[k] with presence := .unused, lostInScan := false } := by
    refine table_ext fun k => ?_
    rw [openScan_card, cardNamed_eq_false_iff.2 fun c hc => absurd hc (by rw [h c]; decide)]
    exact forall_tab (Q := fun j (e : CardEntry) => { s.input.cards[j] with presence := .unused, lostInScan := false } = e)
      (fun _ => rfl) k
  rw [show s.openScan.setScan .waiting = { s with op := s.openScan.op, input := (s.openScan.setScan .waiting).input } from rfl,
    harrives]
  refine ⟨?_, fun d => ?_, rfl, _, rfl, rfl, rfl, closedImage_disabled fun _ => fill_get _ _ _, rfl⟩
  · rw [← hcards]
    rfl
  · exact (openScan_channel s d).trans (applyEnable_eq _ _)

/-- Settles O34: the expiry by the scan state; the scan it opens by `beginScan_opens` and `beginScan_empty`. -/
theorem timerExpiryOpensOrMarks : Obligations.TimerExpiryOpensOrMarks := by
  intro s interval hop htimer
  have hexec : exec .scanIntervalTimerExpiry s = .next s.timerExpires := congrArg Host.Outcome.next (if_pos hop)
  have hopens : s.input.scan = .waiting → s.timerExpires = s.beginScan := by
    intro hscan
    rw [State.timerExpires, htimer, hscan]
  refine ⟨fun hscan => ?_, fun scan hscan => ?_, fun hscan hnone => ?_, fun c hscan hc hfirst => ?_⟩
  · rw [hexec, State.timerExpires, htimer, hscan]
  · rw [hexec, State.timerExpires, htimer, hscan]
  · exact ⟨_, by rw [hexec, hopens hscan], beginScan_empty hnone⟩
  · exact ⟨_, by rw [hexec, hopens hscan], beginScan_opens hc hfirst⟩

/-! ### RESUME (R163) -/

theorem serveResume_resumed (h : s.op.state = .paused) : serveResume s = answer .done
    (State.setOpState { s with map := { s.map with resumeMarker := true } } .running).beginScan := by
  rw [serveResume, if_neg (not_not.2 h)]

theorem serveResume_refused (h : s.op.state ≠ .paused) : serveResume s = answer .state s := if_pos h

/-- Settles O20: what RESUME opens is the opening of a scan on the state with the resume marker set. -/
theorem resumeOpensScan : Obligations.ResumeOpensScan := by
  intro p s ht resumed
  refine ⟨fun hstate => exec_of_refusal ht rfl (by decide) (serveResume_refused hstate), fun hstate hnone => ?_,
    fun c hstate hc hfirst => ?_⟩
  · exact ⟨_, exec_of_done ht rfl (serveResume_resumed hstate), beginScan_empty (s := resumed) hnone⟩
  · exact ⟨_, exec_of_done ht rfl (serveResume_resumed hstate), beginScan_opens (s := resumed) hc hfirst⟩

end Sys2Proof.Machine
end

section
/-! PROOF. The operating requests taken (R101, R161 to R166): START, STOP, PAUSE, RESTART and the time tag. -/

namespace Sys2Proof.Machine

variable {s t : State} {p : Port} {c d : ChannelNo} {k : CardNo} {force : Byte}

/-! ### START refused (R161) -/

theorem startRefusal_none_enabled (h : ∀ c : ChannelNo, s.input.channels[c].enabled = false) :
    startRefusal s.input = some ⟨.config, [1, 0xFF, 0xFF]⟩ := by
  rw [startRefusal, scanList_eq_nil h]

/-- With an enabled channel the second check decides: it searches them in ascending order for an empty curve set. -/
theorem startRefusal_of_enabled (h : s.input.channels[c].enabled = true) :
    startRefusal s.input =
      ((scanList s.input.channels).find? fun d => s.input.curves[s.input.channels[d].curve].isEmpty).map fun d =>
        ⟨.config, [2, put8 d.val, put8 s.input.channels[d].curve.val]⟩ := by
  have hmem : c ∈ scanList s.input.channels := mem_scanList.2 h
  unfold startRefusal
  split
  next hnil =>
    rw [hnil] at hmem
    exact nomatch hmem
  · rfl

/-- The first element of an ascending list that passes a test is the one the search finds. -/
theorem find?_first {l : List ChannelNo} {f : ChannelNo → Bool} (hl : l.Pairwise (· < ·)) (hc : c ∈ l) (hf : f c = true)
    (hfirst : ∀ d ∈ l, d < c → f d = false) : l.find? f = some c := by
  obtain ⟨front, back, rfl⟩ := List.append_of_mem hc
  refine List.find?_eq_some_iff_append.2 ⟨hf, front, back, rfl, fun d hd => ?_⟩
  obtain ⟨-, -, hlt⟩ := List.pairwise_append.1 hl
  rw [hfirst d (List.mem_append_left _ hd) (hlt d hd c (List.mem_cons_self ..))]
  rfl

theorem startRefusal_empty_curve (hc : s.input.channels[c].enabled = true)
    (hcurve : s.input.curves[s.input.channels[c].curve] = [])
    (hfirst : ∀ d < c, s.input.channels[d].enabled = true → s.input.curves[s.input.channels[d].curve] ≠ []) :
    startRefusal s.input = some ⟨.config, [2, put8 c.val, put8 s.input.channels[c].curve.val]⟩ := by
  have hfind := find?_first (f := fun d => s.input.curves[s.input.channels[d].curve].isEmpty)
    (scanList_pairwise s.input.channels) (mem_scanList.2 hc) (by simpa using hcurve)
    (fun d hd hlt => by simpa using hfirst d hlt (mem_scanList.1 hd))
  rw [startRefusal_of_enabled hc, hfind]
  rfl

theorem startRefusal_passes (hc : s.input.channels[c].enabled = true)
    (h : ∀ d : ChannelNo, s.input.channels[d].enabled = true → s.input.curves[s.input.channels[d].curve] ≠ []) :
    startRefusal s.input = none := by
  rw [startRefusal_of_enabled hc, Option.map_eq_none_iff, List.find?_eq_none]
  intro d hd
  simpa using h d (mem_scanList.1 hd)

theorem serveStart_refused {x : Answer} (hstate : s.op.state = .stopped) (hx : startRefusal s.input = some x) :
    serveStart s = (x, s) := by
  rw [serveStart, if_neg (not_not.2 hstate), hx]

theorem serveStart_started (hstate : s.op.state = .stopped) (h : startRefusal s.input = none) :
    serveStart s = answer .done (s.resetRun.setOpState .running).beginScan := by
  rw [serveStart, if_neg (not_not.2 hstate), h]

theorem exec_of_answer {k : RequestKind} {pl : List Byte} (h : s.takes p k) (hl : lengthOk k pl.length = true) {x : Answer}
    (hx : serveKind k p pl s = (x, t)) : exec (k.command p pl) s = .next (t.replied p k x.code x.data) := by
  rw [exec_taken h hl, hx]

/-- Settles O16: by the first check of START that refuses. -/
theorem startRefusals : Obligations.StartRefusals := by
  intro p s ht
  refine ⟨fun hstate => exec_of_refusal ht rfl (by decide) (if_pos hstate), fun hstate hnone => ?_,
    fun c hstate hc hcurve hfirst => ?_⟩
  · exact exec_of_answer ht rfl (serveStart_refused hstate (startRefusal_none_enabled hnone))
  · exact exec_of_answer ht rfl (serveStart_refused hstate (startRefusal_empty_curve hc hcurve hfirst))

/-! ### The run state set (R3, R8, R15, R58, R67, R73, R78, R136) -/

theorem resetRun_channel (x : Input) (d : ChannelNo) : x.resetRun.channels[d] = ChannelStarted x.channels[d] := by
  rw [Input.resetRun_channels, Fin.getElem_fin, tab_get]
  rfl

theorem resetRun_card (x : Input) (k : CardNo) : x.resetRun.cards[k] = x.cards[k].resetRun (cardNamed x.channels k) := by
  rw [Input.resetRun_cards, Fin.getElem_fin, tab_get]

theorem cardStarted_resetRun (s : State) (k : CardNo) : CardStarted s k (s.input.cards[k].resetRun (cardNamed s.input.channels k)) := by
  refine ⟨rfl, rfl, rfl, rfl, rfl, fun hnamed => ?_, fun hfree => ?_⟩
  · rw [cardNamed_iff.2 hnamed]
    rfl
  · rw [cardNamed_eq_false_iff.2 hfree]
    rfl

theorem mapStarted_resetRun (m : MapEngine) : MapStarted m m.resetRun := by
  have hpass : ∀ p : PassNo, m.resetRun.passes[p] = ⟨m.passes[p].stations, m.passes[p].spreadLimit, false, 0, false⟩ := by
    intro p
    rw [MapEngine.resetRun_passes, Fin.getElem_fin, tab_get]
  have hcell : ∀ i : CellIndex, m.resetRun.cells[i] = CellState.reset := fun i => fill_get _ _ _
  refine ⟨hpass, rfl, rfl, rfl, fun p => fill_get _ _ _, rfl, rfl, fun i => ⟨hcell i, ?_⟩, fun p => ?_⟩
  · rw [hcell, MapEngine.resetRun_published]
    exact fill_get _ _ _
  · rw [MapEngine.resetRun_published, PublishedMap.cleared]
    dsimp only
    rw [Fin.getElem_fin, tab_get, show m.resetRun.passes[(⟨p.val, p.isLt⟩ : PassNo)] = _ from hpass p]
    rfl

theorem emptyPass_passes_get (t : Trend) (p q : PassNo) :
    (t.emptyPass p).passes[q] = if q = p then PassTrend.emptied t.passes[q].config else t.passes[q] := by
  rw [Trend.emptyPass]
  dsimp only
  rw [Fin.getElem_fin, upd_get]
  by_cases h : p = q
  · subst h
    simp
  · simp [Fin.val_ne_of_ne h, Ne.symm h]

theorem emptyPass_pool_get (t : Trend) (p : PassNo) (n : Fin 256) :
    (t.emptyPass p).pool[n] = if inAllocation t.passes[p].config n.val = true then none else t.pool[n] :=
  emptySlots_get _ _

theorem emptyPass_config (t : Trend) (p q : PassNo) : (t.emptyPass p).passes[q].config = t.passes[q].config := by
  rw [emptyPass_passes_get]
  split <;> rfl

/-- The passes of a list emptied one after another: their records, and the slots of their allocations. -/
theorem emptyPasses_get (l : List PassNo) (t : Trend) :
    (∀ p : PassNo, (l.foldl Trend.emptyPass t).passes[p] =
      if p ∈ l then PassTrend.emptied t.passes[p].config else t.passes[p])
    ∧ ∀ n : Fin 256, (l.foldl Trend.emptyPass t).pool[n] =
      if ∃ p ∈ l, inAllocation t.passes[p].config n.val = true then none else t.pool[n] := by
  induction l generalizing t with
  | nil => simp
  | cons q l ih =>
    obtain ⟨hpasses, hpool⟩ := ih (t.emptyPass q)
    refine ⟨fun p => ?_, fun n => ?_⟩
    · rw [List.foldl_cons, hpasses, emptyPass_config, emptyPass_passes_get]
      by_cases hp : p ∈ l <;> by_cases hq : p = q <;> simp [hp, hq]
    · rw [List.foldl_cons, hpool, emptyPass_pool_get]
      simp only [emptyPass_config, List.exists_mem_cons_iff]
      by_cases hq : inAllocation t.passes[q].config n.val = true <;>
        by_cases hl : ∃ p ∈ l, inAllocation t.passes[p].config n.val = true <;> simp only [hq, hl, if_true, if_false,
          true_or, or_true, or_self, Bool.false_eq_true]

theorem trendStarted_emptyAll (t : Trend) : TrendStarted t t.emptyAll := by
  obtain ⟨hpasses, hpool⟩ := emptyPasses_get [0, 1, 2, 3] t
  have hall : ∀ p : PassNo, p ∈ ([0, 1, 2, 3] : List PassNo) := by decide
  refine ⟨fun p => (hpasses p).trans (if_pos (hall p)), fun n => (hpool n).trans ?_⟩
  simp only [hall, true_and]

/-! ### START taken (R161) -/

theorem enableApplied_started (number : Word32) (e : ChannelEntry) : EnableApplied number (ChannelStarted e) = ChannelStarted e := by
  unfold EnableApplied ChannelStarted
  cases e.enabled <;> simp

/-- The cards of a run just started, at the open of its first scan: presence by the enabled channels. -/
theorem cardStarted_opened {x : Input} {e : CardEntry} (k : CardNo) (hx : x = s.input.resetRun)
    (he : e = { x.cards[k] with lostInScan := false, presence := e.presence }
      ∧ ((∃ d : ChannelNo, x.channels[d].enabled = true ∧ x.channels[d].card = k) →
          e.presence = if x.cards[k].presence = .unused then .unknown else x.cards[k].presence)
      ∧ ((∀ d : ChannelNo, x.channels[d].enabled = true → x.channels[d].card ≠ k) → e.presence = .unused)) :
    CardStarted s k e := by
  subst hx
  obtain ⟨heq, hnamed, hfree⟩ := he
  simp only [resetRun_channel] at hnamed hfree
  rw [resetRun_card] at heq hnamed
  refine ⟨by rw [heq], by rw [heq]; rfl, by rw [heq]; rfl, by rw [heq]; rfl, by rw [heq]; rfl, fun h => ?_, hfree⟩
  have hcard := hnamed h
  rw [cardNamed_iff.2 h] at hcard
  exact hcard

/-- Settles O17: the run state is set block by block, and a scan opens on it. -/
theorem startBeginsRun : Obligations.StartBeginsRun := by
  intro p s c ht hstate hc hfirst hcurves
  obtain ⟨u, hu⟩ : ∃ u : State, s.resetRun.setOpState .running = u := ⟨_, rfl⟩
  have hop : u.op = { s.op with state := .running } := hu ▸ rfl
  have hinput : u.input = s.input.resetRun := hu ▸ rfl
  have hmap : u.map = s.map.resetRun := hu ▸ rfl
  have htrend : u.trend = s.trend.emptyAll := hu ▸ rfl
  have hchannel : ∀ d : ChannelNo, u.input.channels[d] = ChannelStarted s.input.channels[d] := fun d => by
    rw [hinput, resetRun_channel]
  have henabled : ∀ d : ChannelNo, u.input.channels[d].enabled = s.input.channels[d].enabled := fun d => by
    rw [hchannel]
    rfl
  obtain ⟨⟨hnumber, htimer, hchannels, hcards, hscan, hsent, hkept, hcurve, hinterval, hdue⟩, hframe⟩ :=
    beginScan_opens (s := u) (c := c) (by rw [henabled, hc]) (fun d hd => by rw [henabled, hfirst d hd])
  obtain ⟨t, ht'⟩ : ∃ t : State, u.beginScan = t := ⟨_, rfl⟩
  have hserve := serveStart_started hstate (startRefusal_passes hc hcurves)
  rw [hu, ht'] at hserve
  rw [ht'] at hnumber htimer hchannels hcards hscan hsent hkept hcurve hinterval hdue hframe
  have hmap' : t.map = s.map.resetRun := by rw [hframe, ← hmap]
  have htrend' : t.trend = s.trend.emptyAll := by rw [hframe, ← htrend]
  have hop' : t.op = { s.op with state := .running, timer := some s.input.interval } := by
    rw [hframe, htimer, hop, hinput]
    rfl
  refine ⟨t, exec_of_done ht rfl hserve, hop', fun d => ?_, by rw [hcurve, hinput]; rfl, by rw [hinterval, hinput]; rfl,
    by rw [hdue, hinput]; rfl, fun k => cardStarted_opened k hinput (hcards k), by rw [hnumber, hinput]; rfl, ?_,
    fun hnone => ?_, fun o ho => hkept o (by rw [hinput]; exact ho), ?_, by rw [hmap']; rfl, by rw [hmap']; rfl, ?_, ?_⟩
  · rw [hchannels, hchannel, enableApplied_started]
  · obtain ⟨scan, hopen, hscanNumber, htag, hscanInterval, hremaining, hreadings, hasked⟩ := hscan
    exact ⟨scan, hopen, hscanNumber, by rw [htag, hop], by rw [hscanInterval, hinput]; rfl,
      hremaining.trans (scanList_congr henabled), hreadings, hasked⟩
  · rw [hsent (by rw [hinput]; exact hnone), hchannel]
    rfl
  · rw [hmap']
    exact mapStarted_resetRun _
  · rw [htrend']
    exact trendStarted_emptyAll _
  · rw [hframe, ← hu]
    rfl

/-! ### STOP and PAUSE (R40, R82, R101, R162, R163) -/

theorem mapAbandoned_abandon (m : MapEngine) : MapAbandoned m m.abandon := by
  obtain ⟨hcomputing, hwaiting, hmarker⟩ := abandon_intake m
  refine ⟨abandon_published m, ?_, hcomputing, hwaiting, hmarker, fun hready => ?_, fun c hc => ?_⟩
  · unfold MapEngine.abandon
    split <;> rfl
  · rw [MapEngine.abandon, hready]
    exact ⟨rfl, rfl, rfl, rfl⟩
  · rw [MapEngine.abandon_of_computing hc]
    refine ⟨rfl, rfl, fun p => ?_, fun z => ?_, fun p => ?_, fun p => ?_⟩
    · rw [Fin.getElem_fin, tab_get]
    · rw [ControlLatch.untakeAll, Fin.getElem_fin, tab_get]
      rfl
    · rw [ControlLatch.untakeAll, Fin.getElem_fin, tab_get]
      rfl
    · rw [ControlLatch.untakeAll, Fin.getElem_fin, tab_get]
      rfl

theorem serveStop_taken (hstate : s.op.state ≠ .stopped) (h : StopPasses force s) :
    serveStop [force] s = answer .done (s.abortScan.abandonMap.setOpState .stopped) := by
  rw [serveStop, decide_eq_true hstate, stopRefusal_of_passes h]

theorem servePause_taken (hstate : s.op.state = .running) (h : StopPasses force s) :
    servePause [force] s = answer .done (s.abortScan.setOpState .paused) := by
  rw [servePause, decide_eq_true hstate, stopRefusal_of_passes h]

theorem serveRestart_taken (h : StopPasses force s) : serveRestart [force] s =
    answer .done (s.abortScan.abandonMap.resetRun.restartRest.setOpState .stopped) := by
  rw [serveRestart, stopRefusal_of_passes h]

theorem stopAbandonsWork : StopAbandonsWork := fun _ s _ ht hstate h =>
  ⟨_, exec_of_done ht rfl (serveStop_taken hstate h), ⟨rfl, rfl⟩, mapAbandoned_abandon s.map, rfl⟩

theorem pauseLeavesTheMapEngine : PauseLeavesTheMapEngine := fun _ _ _ ht hstate h =>
  ⟨_, exec_of_done ht rfl (servePause_taken hstate h), ⟨rfl, rfl⟩, rfl⟩

/-- Settles O19. -/
theorem stopAndPause : Obligations.StopAndPause := ⟨stopAbandonsWork, pauseLeavesTheMapEngine⟩

/-! ### RESTART (R164) -/

/-- Settles O21: the work is ended as by STOP, the run state set as by START, and the rest cleared. -/
theorem restartClearsTheRun : Obligations.RestartClearsTheRun := by
  intro p s force ht h
  refine ⟨_, s.map.abandon, exec_of_done ht rfl (serveRestart_taken h), rfl, fun d => resetRun_channel s.input d,
    fun k => ?_, rfl, rfl, rfl, rfl, rfl, rfl, mapAbandoned_abandon s.map, ?_, fun q => fill_get _ _ _, rfl,
    trendStarted_emptyAll s.trend, fun n => fill_get _ _ _, rfl, rfl, rfl, rfl, fun k => ?_, rfl, rfl⟩
  · exact (resetRun_card s.input k).symm ▸ cardStarted_resetRun s k
  · exact mapStarted_resetRun s.map.abandon
  · exact forall_tab (Q := fun k e => e = { s.notices.kinds[k] with pending := none }) (fun _ => rfl) k

/-! ### The time tag (R165, R166) -/

theorem syncValue_eq (form b3 b2 b1 b0 : Byte) : syncValue [form, b3, b2, b1, b0] =
    if form = 0 then some 0 else if form = 1 then some (b3 ++ b2 ++ b1 ++ b0) else none := by
  have hcount : u32 [form, b3, b2, b1, b0] 1 = b3 ++ b2 ++ b1 ++ b0 := u32_eq _ _
  unfold syncValue
  rw [u8_zero, hcount]
  by_cases h0 : form = 0
  · subst h0
    rfl
  by_cases h1 : form = 1
  · subst h1
    rfl
  rw [if_neg h0, if_neg h1]
  split
  · bv_omega
  · bv_omega
  · rfl

theorem resolutionOf_eq_none {n : Nat} (h0 : n ≠ 0) (h1 : n ≠ 1) (h2 : n ≠ 2) : resolutionOf n = none := by
  unfold resolutionOf
  split
  · exact absurd rfl h0
  · exact absurd rfl h1
  · exact absurd rfl h2
  · rfl

/-- A broadcast with a form that is one of the two is taken where it is permitted, and leaves the port as it is. -/
theorem broadcastSync_of_value (hop : s.operating = true) (hport : s.port p = ⟨.hunting, none⟩) {pl : List Byte}
    {tag : Word32} (hlen : pl.length = 5) (hvalue : syncValue pl = some tag) :
    s.broadcastSync p pl =
      if p = .control ∨ s.link.permitted .syncTime = true then (timeSet s tag).noteWrite p .syncTime .done else s := by
  have hhunt : ∀ {u : State}, u.link = s.link → u.hunt p = u := fun hu =>
    hunt_of_hunting ((State.port_of_link hu p).trans hport)
  unfold State.broadcastSync
  rw [listening_of hop (port_assembling hport), hvalue]
  simp only [Bool.not_true, Bool.false_eq_true, if_false, hlen, decide_true, Bool.true_and, Bool.or_eq_true,
    decide_eq_true_eq]
  have htaken : ((s.setTimeTag tag).noteWrite p .syncTime .done).hunt p = (timeSet s tag).noteWrite p .syncTime .done :=
    hhunt (State.noteWrite_link ..)
  rw [htaken, hhunt rfl]

theorem broadcastSync_of_no_value (hop : s.operating = true) (hport : s.port p = ⟨.hunting, none⟩) {pl : List Byte}
    (hvalue : syncValue pl = none) : s.broadcastSync p pl = s := by
  unfold State.broadcastSync
  rw [listening_of hop (port_assembling hport), hvalue]
  exact hunt_of_hunting hport

theorem broadcastSync_eq (hop : s.operating = true) (hport : s.port p = ⟨.hunting, none⟩) (form b3 b2 b1 b0 : Byte) :
    s.broadcastSync p [form, b3, b2, b1, b0] =
      if (p = .control ∨ s.link.permitted .syncTime = true) ∧ form.toNat ≤ 1 then
        (timeSet s (if form = 0 then 0 else b3 ++ b2 ++ b1 ++ b0)).noteWrite p .syncTime .done
      else s := by
  have hvalue := syncValue_eq form b3 b2 b1 b0
  by_cases h0 : form = 0
  · rw [if_pos h0] at hvalue
    rw [broadcastSync_of_value hop hport rfl hvalue, if_pos h0]
    have hform : form.toNat ≤ 1 := by rw [h0]; decide
    simp only [hform, and_true]
  rw [if_neg h0] at hvalue
  by_cases h1 : form = 1
  · rw [if_pos h1] at hvalue
    rw [broadcastSync_of_value hop hport rfl hvalue, if_neg h0]
    have hform : form.toNat ≤ 1 := by rw [h1]; decide
    simp only [hform, and_true]
  rw [if_neg h1] at hvalue
  rw [broadcastSync_of_no_value hop hport hvalue, if_neg]
  rintro ⟨-, hle⟩
  bv_omega

theorem timeRequests : TimeRequests := by
  intro p s form b3 b2 b1 b0
  refine ⟨fun ht => ?_, fun hop hport => ?_, fun ht => ?_⟩
  · have hserve : ∀ v, syncValue [form, b3, b2, b1, b0] = v → serveSyncTime [form, b3, b2, b1, b0] s =
        (match v with | none => answer .range s | some t => answer .done (s.setTimeTag t)) := by
      rintro v rfl
      rfl
    have hvalue := syncValue_eq form b3 b2 b1 b0
    split
    next h0 =>
      rw [if_pos h0] at hvalue
      exact exec_of_done ht rfl (hserve _ hvalue)
    next h0 =>
      rw [if_neg h0] at hvalue
      split
      next h1 =>
        rw [if_pos h1] at hvalue
        exact exec_of_done ht rfl (hserve _ hvalue)
      next h1 =>
        rw [if_neg h1] at hvalue
        exact exec_of_range ht rfl (hserve _ hvalue)
  · have hsync := broadcastSync_eq hop hport form b3 b2 b1 b0
    cases p <;> exact congrArg Host.Outcome.next hsync
  · have hserve : ∀ v, resolutionOf form.toNat = v → serveTimeResSet [form] s =
        (match v with | none => answer .range s | some r => answer .done { s with op := { s.op with resolution := r } }) := by
      rintro v rfl
      rfl
    split
    next h0 => exact exec_of_done ht rfl (hserve (some .ms10) (congrArg resolutionOf h0))
    next h1 => exact exec_of_done ht rfl (hserve (some .ms100) (congrArg resolutionOf h1))
    next h2 => exact exec_of_done ht rfl (hserve (some .s1) (congrArg resolutionOf h2))
    next h0 h1 h2 => exact exec_of_range ht rfl (hserve none (resolutionOf_eq_none h0 h1 h2))

theorem timeTagCountsAndWraps : TimeTagCountsAndWraps := by
  intro s hop
  have hexec : exec .timeTagPeriodExpiry s = .next s.timeTagPeriod := congrArg Host.Outcome.next (if_pos hop)
  refine ⟨fun hlow => ?_, fun hlast => ?_⟩
  · exact hexec.trans (congrArg Host.Outcome.next (if_neg hlow))
  · have hwrap : s.timeTagPeriod = (timeSet s 0).emit [.notice ⟨.timeWrap, none⟩] := by
      rw [State.timeTagPeriod, if_pos hlast, hlast]
      rfl
    refine ⟨_, hexec.trans (congrArg Host.Outcome.next hwrap), State.emit_emitted _ _, State.emit_frame _ _⟩

/-- Settles O22. -/
theorem timeTagAndResolution : Obligations.TimeTagAndResolution := ⟨timeRequests, timeTagCountsAndWraps⟩

end Sys2Proof.Machine
end

section
/-! PROOF. The events of the card link (R20, R22, R23, R33, R36, R41, R60 to R70): what a taken answer or an expired answer period moves and sends, how the scan goes on, and how it closes. -/

namespace Sys2Proof.Machine

variable {s t u : State} {scan : OpenScan} {c d : ChannelNo} {k : CardNo} {r : Reading} {missed rest : List ChannelNo}
  {a b : List Sent} {x y : Input}

/-! ### What an event of the scan moves and sends -/

theorem Emitted.trans (first : Emitted a s t) (hop : t.op = s.op) (rest : Emitted b t u) : Emitted (a ++ b) s u := by
  refine ⟨first.1.append (hop ▸ rest.1), fun hnil => ?_⟩
  obtain ⟨ha, hb⟩ := List.append_eq_nil_iff.1 hnil
  exact ⟨(rest.2 hb).1.trans (first.2 ha).1, (rest.2 hb).2.trans (first.2 ha).2⟩

/-- A part of an event sends `sent`; but for the flow, the Input Processor and the Map Engine the state stands. -/
structure EventSends (sent : List Sent) (s t : State) : Prop where
  emitted : Emitted sent s t
  frame : t = { s.withFlow t.flow with input := t.input, map := t.map, draws := t.draws }

theorem EventSends.op (h : EventSends a s t) : t.op = s.op := by
  rw [h.frame]
  rfl

theorem EventSends.trans (first : EventSends a s t) (rest : EventSends b t u) : EventSends (a ++ b) s u := by
  refine ⟨Emitted.trans first.emitted first.op rest.emitted, ?_⟩
  have hrest := rest.frame
  rw [first.frame] at hrest
  exact hrest

/-- A part of an event makes the Input Processor `x`, leaves the Map Engine and sends `sent`. -/
structure Moves (sent : List Sent) (x : Input) (s t : State) : Prop where
  input : t.input = x
  map : t.map = s.map
  sends : EventSends sent s t

theorem Moves.trans (first : Moves a x s t) (rest : Moves b y t u) : Moves (a ++ b) y s u :=
  ⟨rest.input, rest.map.trans first.map, first.sends.trans rest.sends⟩

theorem moves_input (s : State) (x : Input) : Moves [] x s { s with input := x } :=
  ⟨rfl, rfl, ⟨.done _, fun _ => ⟨rfl, rfl⟩⟩, rfl⟩

theorem moves_emit (s : State) (sent : List Sent) : Moves sent s.input s (s.emit sent) := by
  refine ⟨s.emit_input _, s.emit_map _, s.emit_emitted _, ?_⟩
  apply State.eq_of_fields <;> simp [State.withFlow, State.flow]

/-- An event that then writes the Input Processor. -/
theorem Moves.write (h : Moves a x s t) (y : Input) : Moves a y s { t with input := y } := by
  have hall := h.trans (moves_input t y)
  rwa [List.append_nil] at hall

theorem Moves.frame (h : Moves a x s t) : t = { s.withFlow t.flow with input := t.input, draws := t.draws } := by
  have hf := h.sends.frame
  rw [h.map] at hf
  exact hf

theorem Moves.setOutstanding (h : Moves a x s t) (o : Option Outstanding) :
    Moves a { x with outstanding := o } s (t.setOutstanding o) := by
  obtain rfl := h.input
  exact h.write _

/-- A part of an event writes the Input Processor and then sends. -/
theorem moves_input_emit (s : State) (x : Input) (sent : List Sent) :
    Moves sent x s (State.emit { s with input := x } sent) :=
  (moves_input s x).trans (moves_emit { s with input := x } sent)

/-! ### A reading (R60 to R65) -/

/-- The Input Processor after a reading of a channel. -/
def Input.read (x : Input) (c : ChannelNo) (r : Reading) : Input :=
  { x with
    channels := upd x.channels c (ChannelAfter x.scanNumber r)
    scan := recordReading c { r with usable := (ChannelAfter x.scanNumber r x.channels[c]).health == .good } x.scan }

/-- What a health move emits, by the event of the move. -/
theorem healthEmissions_eq (s : State) (c : ChannelNo) (r : Reading) : healthEmissions s c r =
    match healthEvent s.input.channels[c].health (ChannelAfter s.input.scanNumber r s.input.channels[c]).health with
    | some (record, notice) =>
      [.record (s.inputRecord record (.channel c) r.value), .notice ⟨notice, some c.val⟩]
    | none => [] := by
  unfold healthEmissions
  dsimp only
  generalize s.input.channels[c].health = before
  generalize (ChannelAfter s.input.scanNumber r s.input.channels[c]).health = after
  cases before <;> cases after <;> rfl

theorem upd_congr {n : Nat} {α : Type} {v : Vector α n} {i : Fin n} {f g : α → α} (h : f v[i] = g v[i]) :
    upd v i f = upd v i g := by
  unfold upd
  exact congrArg (fun e => v.set i e) h

theorem giveReading_eq (s : State) (c : ChannelNo) (r : Reading) :
    s.giveReading c r = State.emit { s with input := s.input.read c r } (healthEmissions s c r) := by
  have hmoved : s.input.read c r = { s.input with
      channels := upd s.input.channels c fun e =>
        let m := moveHealth r.status.isGood s.input.channels[c].health s.input.channels[c].badRun s.input.channels[c].goodRun
        { e with
          health := m.health, badRun := m.badRun, goodRun := m.goodRun
          last := ⟨r.status, r.value, r.clamped, r.cjHeld, s.input.scanNumber⟩ }
      scan := (s.input.read c r).scan } := by
    unfold Input.read
    dsimp only
    congr 1
    exact upd_congr rfl
  rw [healthEmissions_eq, hmoved]
  unfold State.giveReading
  dsimp only
  split
  next h => rw [show healthEvent s.input.channels[c].health
      (ChannelAfter s.input.scanNumber r s.input.channels[c]).health = _ from h]; rfl
  next h => rw [show healthEvent s.input.channels[c].health
      (ChannelAfter s.input.scanNumber r s.input.channels[c]).health = _ from h]; rfl

theorem giveReading_moves (s : State) (c : ChannelNo) (r : Reading) :
    Moves (healthEmissions s c r) (s.input.read c r) s (s.giveReading c r) :=
  giveReading_eq s c r ▸ moves_input_emit _ _ _

theorem healthEmissions_congr (hop : t.op = s.op) (hnumber : t.input.scanNumber = s.input.scanNumber)
    (hc : t.input.channels[c] = s.input.channels[c]) : healthEmissions t c r = healthEmissions s c r := by
  unfold healthEmissions
  rw [hop, hnumber, hc]

/-! ### The readings of one event -/

/-- Readings given one after another. -/
def State.readAll (l : List (ChannelNo × Reading)) (s : State) : State := l.foldl (fun u p => u.giveReading p.1 p.2) s

/-- The Input Processor after readings given one after another. -/
def Input.readAll (l : List (ChannelNo × Reading)) (x : Input) : Input := l.foldl (fun u p => u.read p.1 p.2) x

theorem read_channels_ne (hne : d ≠ c) : (x.read c r).channels[d] = x.channels[d] := by
  rw [Input.read, Fin.getElem_fin, upd_get_ne _ _ _ _ _ (Fin.val_ne_of_ne hne)]
  rfl

theorem read_channels_self : (x.read c r).channels[c] = ChannelAfter x.scanNumber r x.channels[c] := by
  rw [Input.read, Fin.getElem_fin, upd_get_self]
  rfl

theorem readAll_moves {l : List (ChannelNo × Reading)} (hl : (l.map Prod.fst).Nodup) (s : State) :
    Moves (l.flatMap fun p => healthEmissions s p.1 p.2) (s.input.readAll l) s (s.readAll l) := by
  induction l generalizing s with
  | nil => exact moves_input s s.input
  | cons p l ih =>
    obtain ⟨hp, hl⟩ := List.nodup_cons.1 hl
    have hfirst := giveReading_moves s p.1 p.2
    have hrest := ih hl (s.giveReading p.1 p.2)
    have hsame : (l.flatMap fun q => healthEmissions (s.giveReading p.1 p.2) q.1 q.2)
        = l.flatMap fun q => healthEmissions s q.1 q.2 := by
      refine List.flatMap_congr fun q hq => healthEmissions_congr hfirst.sends.op ?_ ?_
      · rw [hfirst.input]
        rfl
      · rw [hfirst.input]
        exact read_channels_ne fun heq => hp (heq ▸ List.mem_map_of_mem hq)
    rw [hsame, hfirst.input] at hrest
    exact hfirst.trans hrest

/-- Of an open scan: the channels of the readings `l` are moved and have their readings in the image, the others
are as they were. -/
structure AllRead (x : Input) (scan : OpenScan) (l : List (ChannelNo × Reading)) (y : Input)
    (readings : Vector (Option Reading) 96) : Prop where
  input : y = { x with
    channels := y.channels
    scan := .scanning { scan with remaining := scan.remaining.drop l.length, readings := readings } }
  moved : ∀ p ∈ l, y.channels[p.1] = ChannelAfter x.scanNumber p.2 x.channels[p.1]
  taken : ∀ p ∈ l, readings[p.1] = some { p.2 with usable := y.channels[p.1].health == .good }
  others : ∀ d : ChannelNo, d ∉ l.map Prod.fst → y.channels[d] = x.channels[d] ∧ readings[d] = scan.readings[d]

theorem readAll_allRead {l : List (ChannelNo × Reading)} (hl : (l.map Prod.fst).Nodup) (hscan : x.scan = .scanning scan) :
    ∃ readings, AllRead x scan l (x.readAll l) readings := by
  induction l generalizing x scan with
  | nil =>
    refine ⟨scan.readings, ?_, fun p hp => (nomatch hp), fun p hp => (nomatch hp), fun d _ => ⟨rfl, rfl⟩⟩
    show x = { x with scan := .scanning scan }
    rw [← hscan]
  | cons p l ih =>
    obtain ⟨hp, hl⟩ := List.nodup_cons.1 hl
    have hnext : (x.read p.1 p.2).scan = .scanning (scan.record p.1 { p.2 with usable :=
        (ChannelAfter x.scanNumber p.2 x.channels[p.1]).health == .good }) := by
      rw [Input.read, hscan]
      rfl
    obtain ⟨readings, hread⟩ := ih hl hnext
    have hself : ((x.read p.1 p.2).readAll l).channels[p.1] = ChannelAfter x.scanNumber p.2 x.channels[p.1] :=
      (hread.others p.1 hp).1.trans read_channels_self
    have hne : ∀ q ∈ l, q.1 ≠ p.1 := fun q hq heq => hp (heq ▸ List.mem_map_of_mem hq)
    refine ⟨readings, ?_, fun q hq => ?_, fun q hq => ?_, fun d hd => ?_⟩
    · have hinput := hread.input
      rw [OpenScan.record, List.drop_tail] at hinput
      exact hinput
    · rcases List.mem_cons.1 hq with rfl | hq
      · exact hself
      · exact (hread.moved q hq).trans (by rw [read_channels_ne (hne q hq)]; rfl)
    · rcases List.mem_cons.1 hq with rfl | hq
      · rw [(hread.others q.1 hp).2, show (x.readAll (q :: l)).channels[q.1] = _ from hself]
        exact upd_get_self _ _ _
      · exact hread.taken q hq
    · rw [List.map_cons, List.mem_cons, not_or] at hd
      obtain ⟨hchannel, hreading⟩ := hread.others d hd.2
      exact ⟨hchannel.trans (read_channels_ne hd.1),
        hreading.trans (upd_get_ne _ _ _ _ _ (Fin.val_ne_of_ne hd.1))⟩

/-! ### The readings of one event: the channel whose turn it is, and those of lost cards after it -/

/-- The readings of one event: `c` takes `r`, and the channels of `missed` are MISSING. -/
def turnReadings (c : ChannelNo) (r : Reading) (missed : List ChannelNo) : List (ChannelNo × Reading) :=
  (c, r) :: missed.map fun m => (m, missing)

theorem turnReadings_fst : (turnReadings c r missed).map Prod.fst = c :: missed := by
  simp [turnReadings, Function.comp_def]

theorem readAll_turnReadings (s : State) (c : ChannelNo) (r : Reading) (missed : List ChannelNo) :
    s.readAll (turnReadings c r missed) = missed.foldl (fun u m => u.giveReading m (badReading .missing)) (s.giveReading c r) :=
  List.foldl_map

theorem turnReadings_emissions (s : State) (c : ChannelNo) (r : Reading) (missed : List ChannelNo) :
    ((turnReadings c r missed).flatMap fun p => healthEmissions s p.1 p.2)
      = healthEmissions s c r ++ missed.flatMap fun m => healthEmissions s m missing := by
  rw [turnReadings, List.flatMap_cons, List.flatMap_map]

theorem AllRead.readingsGiven {readings : Vector (Option Reading) 96} (honce : (c :: missed).Nodup)
    (h : AllRead x scan (turnReadings c r missed) y readings) (hchannels : x.channels = s.input.channels)
    (hnumber : x.scanNumber = s.input.scanNumber) :
    ReadingsGiven s c missed r y.channels (fun d => readings[d]) := by
  have hc : (c, r) ∈ turnReadings c r missed := List.mem_cons_self ..
  have hm : ∀ m ∈ missed, (m, missing) ∈ turnReadings c r missed := fun m hm =>
    List.mem_cons_of_mem _ (List.mem_map_of_mem hm)
  refine ⟨fun d => ?_, h.taken _ hc, fun m hmem => h.taken _ (hm m hmem)⟩
  rw [← hchannels, ← hnumber]
  split
  next heq => subst heq; exact h.moved _ hc
  next hne =>
    split
    next hmem => exact h.moved _ (hm d hmem)
    next hnot => exact (h.others d (by rw [turnReadings_fst]; simp [hne, hnot])).1

/-- After the card's move the readings of the event are given. -/
structure TurnRead (s : State) (scan : OpenScan) (c : ChannelNo) (r : Reading) (missed : List ChannelNo)
    (cards : Vector CardEntry 6) (first : List Sent) (t : State) (readings : Vector (Option Reading) 96) : Prop where
  given : ReadingsGiven s c missed r t.input.channels (fun d => readings[d])
  others : ∀ d : ChannelNo, d ∉ c :: missed → readings[d] = scan.readings[d]
  routing : ∀ d : ChannelNo, t.input.channels[d].card = s.input.channels[d].card
    ∧ t.input.channels[d].input = s.input.channels[d].input
  input : t.input = { s.input with
    channels := t.input.channels
    cards := cards
    scan := .scanning { scan with remaining := scan.remaining.drop (missed.length + 1), readings := readings }
    outstanding := none }
  map : t.map = s.map
  sends : EventSends (first ++ healthEmissions s c r ++ missed.flatMap fun m => healthEmissions s m missing) s t

theorem TurnRead.moves {cards : Vector CardEntry 6} {first : List Sent} {readings : Vector (Option Reading) 96}
    (h : TurnRead s scan c r missed cards first t readings) :
    Moves (first ++ healthEmissions s c r ++ missed.flatMap fun m => healthEmissions s m missing) t.input s t :=
  ⟨rfl, h.map, h.sends⟩

theorem readingsGiven_routing {v : Vector ChannelEntry 96} {f : ChannelNo → Option Reading}
    (h : ReadingsGiven s c missed r v f) (d : ChannelNo) :
    v[d].card = s.input.channels[d].card ∧ v[d].input = s.input.channels[d].input := by
  rw [h.moved d]
  split
  · exact ⟨rfl, rfl⟩
  · split <;> exact ⟨rfl, rfl⟩

theorem readingsGiven_enabled {v : Vector ChannelEntry 96} {f : ChannelNo → Option Reading}
    (h : ReadingsGiven s c missed r v f) (d : ChannelNo) : v[d].enabled = s.input.channels[d].enabled := by
  rw [h.moved d]
  split
  · rfl
  · split <;> rfl

theorem turnRead {cards : Vector CardEntry 6} {first : List Sent} (hscan : s.input.scan = .scanning scan)
    (honce : (c :: missed).Nodup) (hcard : Moves first { s.input with cards := cards, outstanding := none } s t)
    (r : Reading) :
    ∃ readings, TurnRead s scan c r missed cards first (t.readAll (turnReadings c r missed)) readings := by
  have hfst : ((turnReadings c r missed).map Prod.fst).Nodup := turnReadings_fst ▸ honce
  have hmoves := readAll_moves hfst t
  have hinput := hcard.input
  obtain ⟨readings, hread⟩ := readAll_allRead (scan := scan) hfst (show t.input.scan = _ by rw [hinput]; exact hscan)
  have hchannels : t.input.channels = s.input.channels := by rw [hinput]
  have hnumber : t.input.scanNumber = s.input.scanNumber := by rw [hinput]
  rw [← hmoves.input] at hread
  have hgiven := hread.readingsGiven (s := s) honce hchannels hnumber
  have hsame : ((turnReadings c r missed).flatMap fun p => healthEmissions t p.1 p.2)
      = (turnReadings c r missed).flatMap fun p => healthEmissions s p.1 p.2 :=
    List.flatMap_congr fun p _ => healthEmissions_congr hcard.sends.op hnumber (by rw [hchannels])
  refine ⟨readings, hgiven, fun d hd => (hread.others d (by rwa [turnReadings_fst])).2, readingsGiven_routing hgiven, ?_,
    hmoves.map.trans hcard.map, ?_⟩
  · have h := hread.input
    rw [hinput, turnReadings, List.length_cons, List.length_map] at h
    exact h
  · have h := hcard.sends.trans hmoves.sends
    rw [hsame, turnReadings_emissions, ← List.append_assoc] at h
    exact h

/-! ### The scan goes on with the next channel (R33) -/

theorem goOn_after_turn (hscan : t.input.scan = .scanning scan) (hturn : scan.remaining = c :: rest) (r : Reading) :
    (t.giveReading c r).goOn = State.advance rest (t.giveReading c r) := by
  rw [State.goOn, State.giveReading_input_scan, hscan]
  show State.advance (scan.remaining.tail) _ = _
  rw [hturn, List.tail_cons]

theorem giveReading_cardOf {cards : Vector CardEntry 6} {v : Vector ChannelEntry 96} (hcards : s.input.cards = cards)
    (hchannels : s.input.channels = v) (c d : ChannelNo) (r : Reading) :
    (s.giveReading c r).input.cards[(s.giveReading c r).input.channels[d].card] = cards[v[d].card] := by
  subst hcards hchannels
  have hroute := State.giveReading_card s c d r
  rw [State.giveReading_input_cards]
  simp only [Fin.getElem_fin] at hroute ⊢
  simp only [hroute]

theorem readingTaken_of_moves {cards : Vector CardEntry 6} {first : List Sent} (hscan : s.input.scan = .scanning scan)
    (hturn : scan.remaining = c :: missed ++ d :: rest) (honce : (c :: missed).Nodup)
    (hcard : Moves first { s.input with cards := cards, outstanding := none } s t)
    (hlost : ∀ m ∈ missed, cards[s.input.channels[m].card].lostInScan = true)
    (hnext : cards[s.input.channels[d].card].lostInScan = false) (r : Reading) :
    ReadingTaken s scan c missed d rest r cards first (t.giveReading c r).goOn := by
  have hinput := hcard.input
  obtain ⟨readings, hread⟩ := turnRead hscan honce hcard r
  have hcards : ∀ m : ChannelNo, (t.giveReading c r).input.cards[(t.giveReading c r).input.channels[m].card]
      = cards[s.input.channels[m].card] := fun m =>
    giveReading_cardOf (by rw [hinput]) (by rw [hinput]) c m r
  have hgo : (t.giveReading c r).goOn = (t.readAll (turnReadings c r missed)).sendFor d := by
    rw [goOn_after_turn (by rw [hinput]; exact hscan) hturn, readAll_turnReadings]
    exact State.advance_missed missed d rest _ (fun m hm => by rw [hcards]; exact hlost m hm) (by rw [hcards]; exact hnext)
  have hsent : (t.readAll (turnReadings c r missed)).sendFor d
      = (t.readAll (turnReadings c r missed)).setOutstanding (some ⟨requestFor scan s.input.channels[d], false⟩) := by
    rw [State.sendFor_scanning d (by rw [hread.input]) (by rw [hread.input]),
      ← requestFor_congr scan (hread.routing d).1 (hread.routing d).2]
    rfl
  rw [hgo, hsent]
  have hremaining : scan.remaining.drop (missed.length + 1) = d :: rest := by
    rw [hturn]
    simp
  have hi := hread.input
  rw [hremaining] at hi
  have hall := hread.moves.setOutstanding (some ⟨requestFor scan s.input.channels[d], false⟩)
  refine ⟨⟨readings, hread.given, hread.others, ?_⟩, hall.sends.emitted, hall.frame⟩
  rw [hall.input, hi]

/-! ### The scan closes (R35, R36) -/

/-- With nothing but channels of lost cards left, those are MISSING and the scan closes. -/
theorem advance_all_missed (missed : List ChannelNo) :
    ∀ s : State, (∀ m ∈ missed, s.input.cards[s.input.channels[m].card].lostInScan = true) →
      State.advance missed s = (missed.foldl (fun u m => u.giveReading m (badReading .missing)) s).closeScan := by
  induction missed with
  | nil => exact fun _ _ => rfl
  | cons m missed ih =>
    intro s h
    unfold State.advance
    rw [h m (List.mem_cons_self ..)]
    exact ih _ fun n hn => by
      rw [giveReading_cardOf rfl rfl]
      exact h n (List.mem_cons_of_mem _ hn)

/-- The arrival of an image moves the Map Engine, as its own state says, and sends a skip notice or nothing. -/
theorem imageArrives_sends (s : State) (image : ScanImage) :
    EventSends (skipEmissions s.map) s (s.imageArrives image) ∧ (s.imageArrives image).input = s.input := by
  have hwrite : ∀ m : MapEngine, EventSends [] s { s with map := m } := fun m => ⟨⟨.done _, fun _ => ⟨rfl, rfl⟩⟩, rfl⟩
  unfold skipEmissions
  cases hc : s.map.computing with
  | none =>
    rw [imageArrives_of_ready hc]
    exact ⟨hwrite _, rfl⟩
  | some running =>
    have hbusy : s.map.computing.isSome = true := by rw [hc]; rfl
    cases hw : s.map.waiting with
    | none =>
      rw [imageArrives_of_emptySlot hbusy hw]
      exact ⟨hwrite _, rfl⟩
    | some old =>
      rw [imageArrives_of_fullSlot hbusy hw]
      exact ⟨(hwrite _).trans (moves_emit _ _).sends, State.emit_input _ _⟩

theorem imageArrives_map_congr (h : t.map = s.map) (image : ScanImage) :
    (t.imageArrives image).map = (s.imageArrives image).map := by
  unfold State.imageArrives
  rw [h]
  dsimp only
  cases s.map.computing with
  | none => rfl
  | some running =>
    cases s.map.waiting with
    | none => rfl
    | some old =>
      dsimp only
      rw [State.emit_map, State.emit_map]

/-- The image of a scan whose last readings were given in one event. -/
theorem TurnRead.deliverImage {cards : Vector CardEntry 6} {first : List Sent} {readings : Vector (Option Reading) 96}
    (h : TurnRead s scan c r missed cards first t readings) : ScanClosed s scan c missed r cards first t.deliverImage := by
  have hscan : t.input.scan = .scanning { scan with
      remaining := scan.remaining.drop (missed.length + 1), readings := readings } := by rw [h.input]
  rw [State.deliverImage, hscan]
  dsimp only
  have hwaiting := h.moves.write (t.setScan .waiting).input
  obtain ⟨hsends, hinput⟩ := imageArrives_sends (t.setScan .waiting) (closedImage { scan with
    remaining := scan.remaining.drop (missed.length + 1), readings := readings })
  have hreadings : ∀ d : ChannelNo, (closedImage { scan with
      remaining := scan.remaining.drop (missed.length + 1), readings := readings }).readings[d]
      = readings[d].getD (badReading .disabled) := fun d => by
    rw [closedImage, Fin.getElem_fin, tab_get]
  rw [show (t.setScan .waiting).map = s.map from h.map] at hsends
  have hall := hwaiting.sends.trans hsends
  refine ⟨closedImage { scan with remaining := scan.remaining.drop (missed.length + 1), readings := readings }, rfl, rfl,
    rfl, ?_, fun d hd => ?_, ?_, imageArrives_map_congr (t := t.setScan .waiting) h.map _, hall.emitted, hall.frame⟩
  · rw [hinput]
    refine ⟨h.given.moved, ?_, fun m hm => ?_⟩
    · rw [hreadings, h.given.taken]
      rfl
    · rw [hreadings, h.given.missing m hm]
      rfl
  · rw [hreadings, h.others d hd]
    rfl
  · rw [hinput, State.setScan, h.input]

theorem goOn_ends {cards : Vector CardEntry 6} {first : List Sent} (hscan : s.input.scan = .scanning scan)
    (hturn : scan.remaining = c :: missed)
    (hcard : Moves first { s.input with cards := cards, outstanding := none } s t)
    (hlost : ∀ m ∈ missed, cards[s.input.channels[m].card].lostInScan = true) (r : Reading) :
    (t.giveReading c r).goOn = (t.readAll (turnReadings c r missed)).closeScan := by
  rw [goOn_after_turn (by rw [hcard.input]; exact hscan) hturn, readAll_turnReadings]
  refine advance_all_missed missed _ fun m hm => ?_
  rw [giveReading_cardOf (cards := cards) (v := s.input.channels) (by rw [hcard.input]) (by rw [hcard.input])]
  exact hlost m hm

/-! ### The card of an answer or an expired request (R22, R23, R68) -/

theorem cardAnswered_moves (s : State) (k : CardNo) : Moves (cardBackEmissions s k)
    { s.input with cards := upd s.input.cards k fun e => { e with presence := .present } } s (s.cardAnswered k) := by
  unfold State.cardAnswered cardBackEmissions
  dsimp only
  split
  · exact moves_input_emit _ _ _
  · exact moves_input _ _

theorem cardTimedOut_moves (s : State) (k : CardNo) : Moves (cardLostEmissions s k)
    { s.input with cards := upd s.input.cards k fun e => { e with presence := .lost, lostInScan := true } } s
    (s.cardTimedOut k) := by
  unfold State.cardTimedOut cardLostEmissions
  dsimp only
  split
  · exact moves_input _ _
  · exact moves_input_emit _ _ _

/-- The state in which the reading of a conversion answer is made. -/
def State.afterAnswer (s : State) (k : CardNo) : State := (s.setOutstanding none).cardAnswered k

/-- The state in which the reading of an expired request is made. -/
def State.afterExpiry (s : State) (q : CardRequest) : State := ((s.setOutstanding none).requestMissed q).cardTimedOut q.card

theorem afterAnswer_moves (s : State) (k : CardNo) : Moves (cardBackEmissions s k)
    { s.input with
      cards := upd s.input.cards k fun e => { e with presence := .present }
      outstanding := none } s (s.afterAnswer k) :=
  (moves_input s (s.setOutstanding none).input).trans (cardAnswered_moves (s.setOutstanding none) k)

theorem requestFor_card (scan : OpenScan) (e : ChannelEntry) : (requestFor scan e).card = e.card := by
  unfold requestFor
  split <;> rfl

theorem afterExpiry_moves (s : State) (scan : OpenScan) (e : ChannelEntry) : Moves (cardLostEmissions s e.card)
    { s.input with
      cards := upd s.input.cards e.card (CardAfterExpiry scan.asked[e.card])
      outstanding := none } s (s.afterExpiry (requestFor scan e)) := by
  rw [State.afterExpiry, requestFor_card]
  unfold requestFor CardAfterExpiry
  cases hasked : scan.asked[e.card] with
  | true => exact (moves_input s (s.setOutstanding none).input).trans (cardTimedOut_moves (s.setOutstanding none) e.card)
  | false =>
    have hpresence : (upd s.input.cards e.card CardEntry.coldJunctionMissed)[e.card].presence = s.input.cards[e.card].presence :=
      by
      rw [Fin.getElem_fin, upd_get_self]
      rfl
    have hemits : cardLostEmissions ((s.setOutstanding none).updCard e.card CardEntry.coldJunctionMissed) e.card
        = cardLostEmissions s e.card := by
      unfold cardLostEmissions
      rw [show ((s.setOutstanding none).updCard e.card CardEntry.coldJunctionMissed).input.cards[e.card].presence
        = s.input.cards[e.card].presence from hpresence]
      rfl
    have hmissed := cardTimedOut_moves ((s.setOutstanding none).updCard e.card CardEntry.coldJunctionMissed) e.card
    have hall := (moves_input s ((s.setOutstanding none).updCard e.card CardEntry.coldJunctionMissed).input).trans hmissed
    rw [hemits, State.updCard] at hall
    dsimp only at hall
    rw [upd_upd] at hall
    exact hall

/-! ### The events as a reading after the card's move (R20, R33) -/

theorem currentChannel_of_turn (hscan : s.input.scan = .scanning scan) (hturn : scan.remaining = c :: rest) :
    s.currentChannel = some c := by
  rw [State.currentChannel, hscan]
  dsimp only
  rw [hturn]
  rfl

/-- The reading that a conversion answer of a card gives a channel. -/
def Input.conversion (x : Input) (c : ChannelNo) (k : CardNo) (emf : Int) (burnout : Bool) : Reading :=
  convert x.channels[c] x.curves[x.channels[c].curve] x.cards[k] emf burnout

theorem conversion_of_present (x : Input) (c : ChannelNo) (k : CardNo) (emf : Int) (burnout : Bool) :
    Input.conversion { x with
      cards := upd x.cards k fun e => { e with presence := .present }, outstanding := none } c k emf burnout
      = x.conversion c k emf burnout := by
  unfold Input.conversion
  dsimp only
  rw [show (upd x.cards k fun e => { e with presence := .present })[k] = { x.cards[k] with presence := .present } from
    upd_get_self _ _ _]
  rfl

theorem conversionAnswer_taken (hop : s.operating = true) (hscan : s.input.scan = .scanning scan)
    (hturn : scan.remaining = c :: rest) (hasked : scan.asked[s.input.channels[c].card] = true)
    (hwaits : s.input.outstanding = some ⟨requestFor scan s.input.channels[c], false⟩) (emf : Int) (burnout : Bool) :
    exec (.conversionAnswer true s.input.channels[c].card s.input.channels[c].input emf burnout) s
      = .next ((s.afterAnswer s.input.channels[c].card).giveReading c
          (s.input.conversion c s.input.channels[c].card emf burnout)).goOn := by
  have hexec : exec (.conversionAnswer true s.input.channels[c].card s.input.channels[c].input emf burnout) s
      = .next (s.conversionArrives true s.input.channels[c].card s.input.channels[c].input emf burnout) :=
    congrArg Host.Outcome.next (if_pos hop)
  have hrequest : requestFor scan s.input.channels[c]
      = .conversion s.input.channels[c].card s.input.channels[c].input := if_pos hasked
  have hcurrent : (s.setOutstanding none).currentChannel = some c :=
    currentChannel_of_turn (s := s.setOutstanding none) hscan hturn
  rw [hexec, State.conversionArrives, hwaits, hrequest]
  simp only [Bool.true_and, decide_true, if_true, Bool.false_eq_true, if_false]
  rw [State.conversionTaken, hcurrent]
  exact congrArg (fun r => Host.Outcome.next (State.goOn (State.giveReading _ c r)))
    ((congrArg (fun x => Input.conversion x c _ emf burnout) (afterAnswer_moves s _).input).trans
      (conversion_of_present _ _ _ _ _))

theorem answerPeriodExpiry_taken (hop : s.operating = true) (hscan : s.input.scan = .scanning scan)
    (hturn : scan.remaining = c :: rest)
    (hwaits : s.input.outstanding = some ⟨requestFor scan s.input.channels[c], false⟩) :
    exec .answerPeriodExpiry s
      = .next ((s.afterExpiry (requestFor scan s.input.channels[c])).giveReading c missing).goOn := by
  have hexec : exec .answerPeriodExpiry s = .next s.answerPeriodExpires := congrArg Host.Outcome.next (if_pos hop)
  have hcurrent : (s.afterExpiry (requestFor scan s.input.channels[c])).currentChannel = some c :=
    currentChannel_of_turn (by rw [(afterExpiry_moves s scan s.input.channels[c]).input]; exact hscan) hturn
  rw [hexec, State.answerPeriodExpires, hwaits]
  simp only [Bool.false_eq_true, if_false]
  unfold State.requestTimedOut
  dsimp only
  rw [show (((s.setOutstanding none).requestMissed (requestFor scan s.input.channels[c])).cardTimedOut
    (requestFor scan s.input.channels[c]).card).currentChannel = some c from hcurrent]
  rfl

/-- A card's presence does not lose it in the scan. -/
theorem lostInScan_present (cards : Vector CardEntry 6) (k j : CardNo) :
    (upd cards k fun e => { e with presence := .present })[j].lostInScan = cards[j].lostInScan :=
  forall_upd (Q := fun j (e : CardEntry) => e.lostInScan = cards[j].lostInScan) (fun _ => rfl) (fun _ => rfl) j

/-- Settles O29: the reading is made after the card is PRESENT, and the scan goes on by `readingTaken_of_moves`. -/
theorem conversionAnswerTaken : Obligations.ConversionAnswerTaken := by
  intro s scan c d missed rest emf burnout h hasked
  dsimp only
  have hanswered := afterAnswer_moves s s.input.channels[c].card
  refine ⟨_, conversionAnswer_taken h.operating h.open_ h.turn hasked h.waits emf burnout, ?_⟩
  exact readingTaken_of_moves h.open_ h.turn h.once hanswered (fun m hm => (lostInScan_present _ _ _).trans (h.missedCards m hm))
    ((lostInScan_present _ _ _).trans (Bool.eq_false_iff.2 h.nextCard)) _

/-- A card after an expired request to card `k` is lost in the scan just where it is `k` or was. -/
theorem lostInScan_afterExpiry (asked : Bool) (cards : Vector CardEntry 6) (k j : CardNo) :
    (upd cards k (CardAfterExpiry asked))[j].lostInScan = true ↔ j = k ∨ cards[j].lostInScan = true := by
  by_cases hj : j = k
  · subst hj
    rw [Fin.getElem_fin, upd_get_self]
    cases asked <;> simp [CardAfterExpiry]
  · rw [Fin.getElem_fin, upd_get_ne _ _ _ _ _ (Fin.val_ne_of_ne hj)]
    simp [hj]

/-- Settles O31: the MISSING reading is made after the card is lost, and the scan goes on by `readingTaken_of_moves`. -/
theorem answerPeriodExpiryLosesCard : Obligations.AnswerPeriodExpiryLosesCard := by
  intro s scan c d missed rest
  dsimp only
  intro h
  have hexpired := afterExpiry_moves s scan s.input.channels[c]
  refine ⟨_, answerPeriodExpiry_taken h.operating h.open_ h.turn h.waits, ?_⟩
  exact readingTaken_of_moves h.open_ h.turn h.once hexpired
    (fun m hm => (lostInScan_afterExpiry _ _ _ _).2 (h.missedCards m hm))
    (Bool.eq_false_iff.2 fun hl => h.nextCard ((lostInScan_afterExpiry _ _ _ _).1 hl)) _

/-! ### The cold-junction answer (R68) -/

/-- A card after a taken cold-junction answer (R22, R68). -/
def coldJunctionAnswered (temp : Int) (k : CardEntry) : CardEntry :=
  if -400 ≤ temp ∧ temp ≤ 1250 then
    { k with presence := .present, lastGood := some temp, cjHeld := false, outcome := .valid }
  else { k with presence := .present, cjHeld := true, outcome := .invalid }

theorem coldJunctionTaken_present (temp : Int) (k : CardEntry) :
    CardEntry.coldJunctionTaken temp { k with presence := .present } = coldJunctionAnswered temp k := by
  unfold CardEntry.coldJunctionTaken validColdJunction coldJunctionAnswered
  by_cases h : -400 ≤ temp ∧ temp ≤ 1250 <;> simp [h]

/-- The Input Processor after a taken cold-junction answer, before the next request. -/
def Input.coldJunctionAnswered (x : Input) (k : CardNo) (temp : Int) : Input :=
  { x with
    cards := upd x.cards k (Machine.coldJunctionAnswered temp)
    scan := markAsked k x.scan
    outstanding := none }

theorem afterColdJunction_moves (s : State) (k : CardNo) (temp : Int) :
    Moves (cardBackEmissions s k) (s.input.coldJunctionAnswered k temp) s
      (((s.afterAnswer k).updCard k (CardEntry.coldJunctionTaken temp)).setScan (markAsked k (s.afterAnswer k).input.scan)) := by
  have hanswered := afterAnswer_moves s k
  have hinput : (((s.afterAnswer k).updCard k (CardEntry.coldJunctionTaken temp)).setScan
      (markAsked k (s.afterAnswer k).input.scan)).input = s.input.coldJunctionAnswered k temp := by
    unfold State.setScan State.updCard
    rw [hanswered.input]
    dsimp only
    simp only [upd_upd, coldJunctionTaken_present]
    rfl
  rw [← hinput]
  exact hanswered.write _

theorem cardOf_congr (h : x = y) (hlost : y.cards[y.channels[c].card].lostInScan = false) :
    x.cards[x.channels[c].card].lostInScan = false := by
  subst h
  exact hlost

/-- Settles O30: the card moves as at any taken answer, and the next request is the conversion of the same channel. -/
theorem coldJunctionAnswerTaken : Obligations.ColdJunctionAnswerTaken := by
  intro s scan c rest temp hop hscan hturn
  dsimp only
  intro hwaits hfound
  have hexec : exec (.coldJunctionAnswer true s.input.channels[c].card temp) s
      = .next (s.coldJunctionArrives true s.input.channels[c].card temp) := congrArg Host.Outcome.next (if_pos hop)
  have hanswered := afterAnswer_moves s s.input.channels[c].card
  have hmoves := afterColdJunction_moves s s.input.channels[c].card temp
  have hlost : (s.input.coldJunctionAnswered s.input.channels[c].card temp).cards[s.input.channels[c].card].lostInScan = false := by
    rw [Input.coldJunctionAnswered, Fin.getElem_fin, upd_get_self]
    unfold coldJunctionAnswered
    split <;> exact hfound
  have hnext := State.goOn_next (s := ((s.afterAnswer s.input.channels[c].card).updCard s.input.channels[c].card
      (CardEntry.coldJunctionTaken temp)).setScan
      (markAsked s.input.channels[c].card (s.afterAnswer s.input.channels[c].card).input.scan))
    (scan := { scan with asked := upd scan.asked s.input.channels[c].card fun _ => true })
    (by rw [hmoves.input, Input.coldJunctionAnswered, hscan]; rfl) hturn (by rw [hmoves.input]; rfl)
    (cardOf_congr hmoves.input hlost)
  have hrequest : requestFor { scan with asked := upd scan.asked s.input.channels[c].card fun _ => true }
      s.input.channels[c] = .conversion s.input.channels[c].card s.input.channels[c].input :=
    if_pos (upd_get_self _ _ _)
  rw [show State.input _ = _ from hmoves.input] at hnext
  rw [show (s.input.coldJunctionAnswered s.input.channels[c].card temp).channels = s.input.channels from rfl, hrequest] at hnext
  have hall := hmoves.setOutstanding (some ⟨.conversion s.input.channels[c].card s.input.channels[c].input, false⟩)
  refine ⟨_, ?_, ?_, hall.sends.emitted, hall.frame⟩
  · rw [hexec, State.coldJunctionArrives, hwaits]
    simp only [Bool.true_and, decide_true, if_true, Bool.false_eq_true, if_false]
    exact congrArg Host.Outcome.next hnext
  · rw [hall.input, Input.coldJunctionAnswered, hscan]
    rfl


/-! ### Answers that do not match, and requests of an aborted scan (R20, R41, R70) -/

/-- The outcome of a request of an aborted scan frees the card link. -/
theorem freed_exec (hop : s.operating = true) {q : CardRequest} (hwaits : s.input.outstanding = some ⟨q, true⟩)
    (card : CardNo) (input : Fin 16) (emf temp : Int) (burnout : Bool) :
    (q = .conversion card input → exec (.conversionAnswer true card input emf burnout) s = .next (s.setOutstanding none).goOn)
    ∧ (q = .coldJunction card → exec (.coldJunctionAnswer true card temp) s = .next (s.setOutstanding none).goOn)
    ∧ exec .answerPeriodExpiry s = .next (s.setOutstanding none).goOn := by
  refine ⟨fun hq => ?_, fun hq => ?_, ?_⟩
  · refine (congrArg Host.Outcome.next (if_pos hop)).trans ?_
    rw [State.conversionArrives, hwaits, hq]
    simp
  · refine (congrArg Host.Outcome.next (if_pos hop)).trans ?_
    rw [State.coldJunctionArrives, hwaits, hq]
    simp
  · refine (congrArg Host.Outcome.next (if_pos hop)).trans ?_
    rw [State.answerPeriodExpires, hwaits]
    simp

/-- Settles O32: a request that does not match is left, one of an aborted scan is freed and the scan goes on. -/
theorem discardedAnswersHaveNoEffect : Obligations.DiscardedAnswersHaveNoEffect := by
  intro s sound card input emf temp burnout hop
  refine ⟨fun hother => ?_, fun hother => ?_, fun hclosed => ?_, fun scan c rest q hscan hturn hfound hwaits => ?_⟩
  · refine (congrArg Host.Outcome.next (if_pos hop)).trans (congrArg Host.Outcome.next ?_)
    unfold State.conversionArrives
    split
    next o ho =>
      refine if_neg fun h => ?_
      obtain ⟨hsound, hmatch⟩ := Bool.and_eq_true_iff.1 h
      exact hother o ho hsound (of_decide_eq_true hmatch)
    next => rfl
  · refine (congrArg Host.Outcome.next (if_pos hop)).trans (congrArg Host.Outcome.next ?_)
    unfold State.coldJunctionArrives
    split
    next o ho =>
      refine if_neg fun h => ?_
      obtain ⟨hsound, hmatch⟩ := Bool.and_eq_true_iff.1 h
      exact hother o ho hsound (of_decide_eq_true hmatch)
    next => rfl
  · have hfreed : (s.setOutstanding none).goOn = s.setOutstanding none := State.goOn_closed hclosed
    refine ⟨fun hwaits => ?_, fun hwaits => ?_, fun q hwaits => ?_⟩
    · rw [(freed_exec hop hwaits card input emf temp burnout).1 rfl, hfreed]
      rfl
    · rw [(freed_exec hop hwaits card input emf temp burnout).2.1 rfl, hfreed]
      rfl
    · rw [(freed_exec hop hwaits card input emf temp burnout).2.2, hfreed]
      rfl
  · have hfirst := State.goOn_next (s := s.setOutstanding none) hscan hturn rfl hfound
    obtain ⟨hconversion, hcold, hexpiry⟩ := freed_exec hop hwaits card input emf temp burnout
    rw [hfirst] at hconversion hcold hexpiry
    exact ⟨hconversion, hcold, hexpiry⟩

end Sys2Proof.Machine
end

section
/-! PROOF. The last reading of a scan (R23, R35 to R37): it closes the scan and delivers its image, and a late scan opens the next at once. -/

namespace Sys2Proof.Machine

variable {s t : State} {scan : OpenScan} {c d : ChannelNo} {r : Reading} {missed : List ChannelNo}

/-! ### The due marker is read at the close alone -/

/-- The state with the due marker replaced. -/
def State.setDue (s : State) (b : Bool) : State := { s with input := { s.input with due := b } }

/-- An emission does not read the Input Processor. -/
theorem emit_input_congr (s : State) (x : Input) (sent : List Sent) :
    State.emit { s with input := x } sent = { s.emit sent with input := x } := by
  induction sent generalizing s with
  | nil => rfl
  | cons a sent ih => exact ih (s.settle (s.flow.emitOne a))

theorem emit_setDue (s : State) (b : Bool) (sent : List Sent) : (s.setDue b).emit sent = (s.emit sent).setDue b := by
  rw [State.setDue, emit_input_congr, State.setDue, State.emit_input]

theorem cardAnswered_setDue (s : State) (b : Bool) (k : CardNo) :
    (s.setDue b).cardAnswered k = (s.cardAnswered k).setDue b := by
  unfold State.cardAnswered
  dsimp only
  rw [apply_ite (fun u : State => u.setDue b), ← emit_setDue]
  rfl

theorem cardTimedOut_setDue (s : State) (b : Bool) (k : CardNo) :
    (s.setDue b).cardTimedOut k = (s.cardTimedOut k).setDue b := by
  unfold State.cardTimedOut
  dsimp only
  rw [apply_ite (fun u : State => u.setDue b), ← emit_setDue]
  rfl

theorem afterAnswer_setDue (s : State) (b : Bool) (k : CardNo) :
    (s.setDue b).afterAnswer k = (s.afterAnswer k).setDue b :=
  cardAnswered_setDue (s.setOutstanding none) b k

theorem afterExpiry_setDue (s : State) (b : Bool) (q : CardRequest) :
    (s.setDue b).afterExpiry q = (s.afterExpiry q).setDue b := by
  refine Eq.trans ?_ (cardTimedOut_setDue ((s.setOutstanding none).requestMissed q) b q.card)
  cases q <;> rfl

theorem giveReading_setDue (s : State) (b : Bool) (c : ChannelNo) (r : Reading) :
    (s.setDue b).giveReading c r = (s.giveReading c r).setDue b := by
  rw [giveReading_eq, giveReading_eq, ← emit_setDue]
  rfl

theorem readAll_setDue (l : List (ChannelNo × Reading)) (s : State) (b : Bool) :
    (s.setDue b).readAll l = (s.readAll l).setDue b := by
  induction l generalizing s with
  | nil => rfl
  | cons p l ih =>
    show ((s.setDue b).giveReading p.1 p.2).readAll l = _
    rw [giveReading_setDue, ih]
    rfl

theorem imageArrives_setDue (s : State) (b : Bool) (image : ScanImage) :
    (s.setDue b).imageArrives image = (s.imageArrives image).setDue b := by
  obtain ⟨hsends, hinput⟩ := imageArrives_sends s image
  refine (imageArrives_congr (s := s) (op := s.op) rfl (s.setDue b).input image).trans ?_
  rw [State.setDue, State.setDue, hinput, ← hsends.op]

theorem deliverImage_setDue (s : State) (b : Bool) : (s.setDue b).deliverImage = s.deliverImage.setDue b := by
  unfold State.deliverImage
  rw [show (s.setDue b).input.scan = s.input.scan from rfl]
  split
  · exact imageArrives_setDue (s.setScan .waiting) b _
  · rfl

/-! ### The close with and without the due marker (R36) -/

theorem deliverImage_due (s : State) : s.deliverImage.input.due = s.input.due := by
  unfold State.deliverImage
  split
  · rw [(imageArrives_sends _ _).2]
    rfl
  · rfl

theorem closeScan_of_not_due (h : s.input.due = false) : s.closeScan = s.deliverImage := by
  rw [State.closeScan]
  exact if_neg (by rw [deliverImage_due, h]; decide)

/-- A late scan closes as one in time does; then SCAN_LATE is sent and the next scan opens. -/
theorem closeScan_of_due (h : s.input.due = true) :
    s.closeScan = ((s.setDue false).closeScan.emit [.notice ⟨.scanLate, none⟩]).beginScan := by
  rw [closeScan_of_not_due (s := s.setDue false) rfl, deliverImage_setDue, State.closeScan]
  exact if_pos ((deliverImage_due s).trans h)

/-! ### The events that end a scan -/

theorem endsByAnswer_goOn (h : EndsByAnswer s scan c missed) (r : Reading) :
    ((s.afterAnswer s.input.channels[c].card).giveReading c r).goOn
      = ((s.afterAnswer s.input.channels[c].card).readAll (turnReadings c r missed)).closeScan :=
  goOn_ends h.2.open_ h.2.turn (afterAnswer_moves s _) (fun m hm => (lostInScan_present _ _ _).trans (h.2.missedCards m hm)) r

theorem endsByExpiry_goOn (h : EndsByExpiry s scan c missed) (r : Reading) :
    ((s.afterExpiry (requestFor scan s.input.channels[c])).giveReading c r).goOn
      = ((s.afterExpiry (requestFor scan s.input.channels[c])).readAll (turnReadings c r missed)).closeScan :=
  goOn_ends h.open_ h.turn (afterExpiry_moves s _ _) (fun m hm => (lostInScan_afterExpiry _ _ _ _).2 (h.missedCards m hm)) r

/-- The state before the close in the event of a conversion answer that ends a scan. -/
def State.answerEnds (s : State) (c : ChannelNo) (missed : List ChannelNo) (emf : Int) (burnout : Bool) : State :=
  (s.afterAnswer s.input.channels[c].card).readAll
    (turnReadings c (s.input.conversion c s.input.channels[c].card emf burnout) missed)

/-- The state before the close in the event of an expiry that ends a scan. -/
def State.expiryEnds (s : State) (scan : OpenScan) (c : ChannelNo) (missed : List ChannelNo) : State :=
  (s.afterExpiry (requestFor scan s.input.channels[c])).readAll (turnReadings c missing missed)

theorem conversionAnswer_ends (h : EndsByAnswer s scan c missed) (emf : Int) (burnout : Bool) :
    exec (.conversionAnswer true s.input.channels[c].card s.input.channels[c].input emf burnout) s
      = .next (s.answerEnds c missed emf burnout).closeScan := by
  rw [conversionAnswer_taken h.2.operating h.2.open_ h.2.turn h.1 h.2.waits, endsByAnswer_goOn h]
  rfl

theorem answerPeriodExpiry_ends (h : EndsByExpiry s scan c missed) :
    exec .answerPeriodExpiry s = .next (s.expiryEnds scan c missed).closeScan := by
  rw [answerPeriodExpiry_taken h.operating h.open_ h.turn h.waits, endsByExpiry_goOn h]
  rfl

theorem answerEnds_turnRead (h : EndsByAnswer s scan c missed) (emf : Int) (burnout : Bool) :
    ∃ readings, TurnRead s scan c (s.input.conversion c s.input.channels[c].card emf burnout) missed
      (upd s.input.cards s.input.channels[c].card fun k => { k with presence := .present })
      (cardBackEmissions s s.input.channels[c].card) (s.answerEnds c missed emf burnout) readings :=
  turnRead h.2.open_ h.2.once (afterAnswer_moves s _) _

theorem expiryEnds_turnRead (h : EndsByExpiry s scan c missed) :
    ∃ readings, TurnRead s scan c missing missed
      (upd s.input.cards s.input.channels[c].card (CardAfterExpiry scan.asked[s.input.channels[c].card]))
      (cardLostEmissions s s.input.channels[c].card) (s.expiryEnds scan c missed) readings :=
  turnRead h.open_ h.once (afterExpiry_moves s _ _) _

theorem TurnRead.due {cards : Vector CardEntry 6} {first : List Sent} {readings : Vector (Option Reading) 96}
    (h : TurnRead s scan c r missed cards first t readings) : t.input.due = s.input.due := by
  rw [h.input]

theorem TurnRead.closes {cards : Vector CardEntry 6} {first : List Sent} {readings : Vector (Option Reading) 96}
    (h : TurnRead s scan c r missed cards first t readings) (hdue : s.input.due = false) :
    ScanClosed s scan c missed r cards first t.closeScan := by
  rw [closeScan_of_not_due (h.due.trans hdue)]
  exact h.deliverImage

theorem lastReadingDeliversImage : LastReadingDeliversImage := by
  intro s scan c missed emf burnout hdue
  refine ⟨fun hends => ?_, fun hends => ?_⟩
  · obtain ⟨readings, hread⟩ := answerEnds_turnRead hends emf burnout
    exact ⟨_, conversionAnswer_ends hends emf burnout, hread.closes hdue⟩
  · obtain ⟨readings, hread⟩ := expiryEnds_turnRead hends
    exact ⟨_, answerPeriodExpiry_ends hends, hread.closes hdue⟩

/-! ### A late scan (R36, R37) -/

theorem answerEnds_setDue (s : State) (b : Bool) (c : ChannelNo) (missed : List ChannelNo) (emf : Int) (burnout : Bool) :
    (s.setDue b).answerEnds c missed emf burnout = (s.answerEnds c missed emf burnout).setDue b := by
  unfold State.answerEnds
  rw [afterAnswer_setDue, readAll_setDue]
  rfl

theorem expiryEnds_setDue (s : State) (b : Bool) (scan : OpenScan) (c : ChannelNo) (missed : List ChannelNo) :
    (s.setDue b).expiryEnds scan c missed = (s.expiryEnds scan c missed).setDue b := by
  unfold State.expiryEnds
  rw [afterExpiry_setDue, readAll_setDue]
  rfl

/-- A scan that ends late: the same event with the due marker clear closes it, and the next scan opens. -/
theorem late_ends {cards : Vector CardEntry 6} {first : List Sent} {readings : Vector (Option Reading) 96} {event : Instr}
    (hread : TurnRead s scan c r missed cards first t readings) (hdue : s.input.due = true)
    (hlate : exec event s = .next t.closeScan) (htimely : exec event (s.setDue false) = .next (t.setDue false).closeScan) :
    ∃ v late u : State, exec event (s.setDue false) = .next v
      ∧ Emitted [.notice ⟨.scanLate, none⟩] v late ∧ late = { v.withFlow late.flow with draws := late.draws }
      ∧ exec event s = .next u
      ∧ (∀ d : ChannelNo, s.input.channels[d].enabled = true → (∀ x < d, s.input.channels[x].enabled = false) →
          ScanOpened d late u ∧ u = { late with op := { late.op with timer := u.op.timer }, input := u.input })
      ∧ ((∀ x : ChannelNo, s.input.channels[x].enabled = false) → EmptyScanTaken late u) := by
  rw [closeScan_of_due (hread.due.trans hdue)] at hlate
  have henabled : ∀ d : ChannelNo, ((t.setDue false).closeScan.emit [.notice ⟨.scanLate, none⟩]).input.channels[d].enabled
      = s.input.channels[d].enabled := by
    intro d
    rw [State.emit_input, closeScan_of_not_due (s := t.setDue false) rfl, deliverImage_setDue]
    show t.deliverImage.input.channels[d].enabled = _
    obtain ⟨image, -, -, -, hgiven, -⟩ := hread.deliverImage
    exact readingsGiven_enabled hgiven d
  refine ⟨_, _, _, htimely, State.emit_emitted _ _, State.emit_frame _ _, hlate, fun d hd hfirst => ?_, fun hnone => ?_⟩
  · exact beginScan_opens ((henabled d).trans hd) fun x hx => (henabled x).trans (hfirst x hx)
  · exact beginScan_empty fun x => (henabled x).trans (hnone x)

theorem lateScanOpensTheNext : LateScanOpensTheNext := by
  intro s scan c missed emf burnout event hdue
  dsimp only
  rintro (⟨rfl, hends⟩ | ⟨rfl, hends⟩)
  · obtain ⟨readings, hread⟩ := answerEnds_turnRead hends emf burnout
    have hends' : EndsByAnswer (s.setDue false) scan c missed :=
      ⟨hends.1, hends.2.operating, hends.2.open_, hends.2.turn, hends.2.once, hends.2.waits, hends.2.missedCards⟩
    exact late_ends hread hdue (conversionAnswer_ends hends emf burnout)
      (answerEnds_setDue s false c missed emf burnout ▸ conversionAnswer_ends hends' emf burnout)
  · obtain ⟨readings, hread⟩ := expiryEnds_turnRead hends
    have hends' : EndsByExpiry (s.setDue false) scan c missed :=
      ⟨hends.operating, hends.open_, hends.turn, hends.once, hends.waits, hends.missedCards⟩
    exact late_ends hread hdue (answerPeriodExpiry_ends hends)
      (expiryEnds_setDue s false scan c missed ▸ answerPeriodExpiry_ends hends')

/-- Settles O33: the close of a scan, and its late form from the same event with the due marker clear. -/
theorem lastReadingClosesScan : Obligations.LastReadingClosesScan :=
  ⟨lastReadingDeliversImage, lateScanOpensTheNext⟩

end Sys2Proof.Machine
end

section
/-! PROOF. The map's configuration and pending controls: PASS_SET, CELL_BIND, HOLD_PASS, RELEASE_PASS and CLEAR_PEAKS (R4, R5, R7, R79, R80, R115). -/

namespace Sys2Proof.Machine

variable {s : State} {b : Byte} {pl : List Byte}

/-! ### Pending holds and peak clears (R79, R80, R115) -/

theorem writeHold_pends (hold : Bool) (s : State) (p : PassNo) : writeHold hold [put8 p.val] s = answer .done
    { s with map := { s.map with latch := { s.map.latch with
      holds := upd s.map.latch.holds p fun _ => some ⟨hold, false⟩ } } } := by
  rw [writeHold, u8_zero, below_put8 (by decide)]
  rfl

theorem writeHold_range (hold : Bool) (s : State) (h : 4 ≤ b.toNat) : writeHold hold [b] s = answer .range s := by
  rw [writeHold, u8_zero, below_none.2 h]

theorem serveClearPeaks_selected {ps : List PassNo} (h : selectedPasses b.toNat = some ps) :
    serveClearPeaks [b] s = answer .done { s with map := { s.map with latch := { s.map.latch with
      peakClears := tab fun p => if ps.contains p then some ⟨(), false⟩ else s.map.latch.peakClears[p] } } } := by
  rw [serveClearPeaks, u8_zero, h]
  rfl

/-- The selection byte of CLEAR_PEAKS names a pass or all four. -/
theorem selectedPasses_contains (h : b.toNat ≤ 4) :
    ∃ ps, selectedPasses b.toNat = some ps ∧ ∀ p : PassNo, ps.contains p = true ↔ b = 4 ∨ b = put8 p.val := by
  by_cases hall : b = 4
  · subst hall
    exact ⟨_, selectedPasses_four, fun p => by simp⟩
  · have hlt : b.toNat < 4 := lt_of_le_of_ne h fun h4 => hall (BitVec.eq_of_toNat_eq h4)
    obtain ⟨q, rfl⟩ : ∃ q : PassNo, b = put8 q.val := ⟨⟨b.toNat, hlt⟩, (eq_put8_iff (by omega)).2 rfl⟩
    refine ⟨[q], selectedPasses_put8 q, fun p => ?_⟩
    rw [eq_put8_iff_below (by decide) p, below_put8 (by decide), or_iff_right hall, List.contains_iff_mem, List.mem_singleton,
      Option.some_inj]
    exact eq_comm

/-- Settles O37: each request writes its entries of the latch, by the pass or selection that its byte names. -/
theorem holdsAndPeakClearsPend : Obligations.HoldsAndPeakClearsPend := by
  intro s port
  refine ⟨fun hold => ?_, fun ht => ⟨fun b hb => ?_, fun b hb => ?_⟩⟩
  · cases hold with
    | true => exact fun ht => ⟨fun p => exec_of_done ht rfl (writeHold_pends true s p),
        fun b hb => exec_of_range ht rfl (writeHold_range true s hb)⟩
    | false => exact fun ht => ⟨fun p => exec_of_done ht rfl (writeHold_pends false s p),
        fun b hb => exec_of_range ht rfl (writeHold_range false s hb)⟩
  · obtain ⟨ps, hps, hcontains⟩ := selectedPasses_contains hb
    refine ⟨_, exec_of_done ht rfl (serveClearPeaks_selected hps), fun p => ?_, rfl⟩
    dsimp only
    rw [Fin.getElem_fin, tab_get]
    exact if_congr (hcontains p) rfl rfl
  · exact exec_of_range ht rfl (by rw [serveKind, serveClearPeaks, u8_zero, selectedPasses_of_lt hb])

/-! ### PASS_SET (R4, R5) -/

theorem setPass_written (m : MapEngine) (p : PassNo) (n : Nat) (limit : Option Int) :
    PassWritten m (m.setPass p n limit) p n limit := by
  refine ⟨rfl, rfl, fun i => ⟨fun hkept => ?_, fun hpass hstation => ?_⟩⟩
  · have hkept : (passOf i != p || decide ((stationOf i).val < min m.passes[p].stations n)) = true := by simpa using hkept
    simp only [MapEngine.setPass, Fin.getElem_fin, tab_get]
    exact ⟨if_pos hkept, if_pos hkept⟩
  · have hcleared : ¬ (passOf i != p || decide ((stationOf i).val < min m.passes[p].stations n)) = true := by
      rw [Bool.or_eq_true, bne_iff_ne, decide_eq_true_iff, not_or, not_not]
      exact ⟨hpass, not_lt.2 hstation⟩
    simp only [MapEngine.setPass, Fin.getElem_fin, tab_get]
    exact ⟨if_neg hcleared, if_neg hcleared⟩

theorem servePassSet_state (h : s.op.state ≠ .stopped) : servePassSet pl s = answer .state s := if_pos h

/-- The spread limit that PASS_SET's last two bytes ask for (R4). -/
def spreadLimitOf (hi lo : Byte) : Option Int :=
  if (hi ++ lo : BitVec 16).toInt = -32768 then none else some (hi ++ lo : BitVec 16).toInt

theorem spreadLimitOf_inRange (hi lo : Byte) : (spreadLimitOf hi lo).all (fun x => within 1 x 5000) = true ↔
    (hi ++ lo : BitVec 16).toInt = -32768 ∨ (1 ≤ (hi ++ lo : BitVec 16).toInt ∧ (hi ++ lo : BitVec 16).toInt ≤ 5000) := by
  unfold spreadLimitOf
  split
  next h => simp [h]
  next h => rw [Option.all_some, within_iff, or_iff_right h]

theorem servePassSet_stopped (h : s.op.state = .stopped) (b count hi lo : Byte) :
    servePassSet [b, count, hi, lo] s = match below 4 b.toNat with
      | none => answer .range s
      | some p =>
        if !within 1 count.toNat 32 then answer .range s
        else if !(spreadLimitOf hi lo).all (fun x => within 1 x 5000) then answer .range s
        else answer .done { s with map := s.map.setPass p count.toNat (spreadLimitOf hi lo) } := by
  have hopt : opt16 [b, count, hi, lo] 2 = spreadLimitOf hi lo := by
    rw [opt16_succ, opt16_succ, opt16, s16_zero]
    rfl
  rw [← hopt]
  exact if_neg (not_not.2 h)

theorem passSetWrites : PassSetWrites := by
  intro s port b count hi lo ht
  dsimp only
  refine ⟨fun hstate => exec_of_refusal ht rfl (by decide) (servePassSet_state hstate), fun hstopped hbad => ?_,
    fun p hstopped hb hlow hhigh hlimit => ?_⟩
  · refine exec_of_range ht rfl ((servePassSet_stopped hstopped b count hi lo).trans ?_)
    have hcount : count = 0 → ¬ within 1 count.toNat 32 = true := by
      rintro rfl
      decide
    cases hp : below 4 b.toNat with
    | none => rfl
    | some p =>
      dsimp only
      rw [← ite_or]
      refine if_pos ?_
      rw [Bool.not_eq_true', Bool.not_eq_true', ← Bool.not_eq_true, ← Bool.not_eq_true, spreadLimitOf_inRange]
      rcases hbad with hpass | hzero | hmany | hlimit
      · exact absurd (below_none.2 hpass) (by rw [hp]; exact Option.some_ne_none p)
      · exact .inl (hcount hzero)
      · exact .inl (by rw [within_iff]; omega)
      · exact .inr (by omega)
  · have hcount : within 1 count.toNat 32 = true := within_iff.2 (by omega)
    have hserve := servePassSet_stopped hstopped b count hi lo
    rw [hb, below_put8 (by decide)] at hserve
    simp only [hcount, (spreadLimitOf_inRange hi lo).2 hlimit, Bool.not_true, Bool.false_eq_true, if_false] at hserve
    rw [hb]
    exact ⟨_, exec_of_done ht rfl hserve, rfl, setPass_written _ _ _ _⟩

/-! ### CELL_BIND (R7) -/

theorem optChannel_none {i : Nat} : optChannel pl i = none ↔ 96 ≤ u8 pl i ∧ u8 pl i ≠ 255 := by
  unfold optChannel
  split
  next h => simp [h]
  next h =>
    split
    next hlt => simp [hlt]
    next hge => simp [h]; omega

theorem optChannel_absent {i : Nat} : optChannel pl i = some none ↔ u8 pl i = 255 := by
  unfold optChannel
  split
  next h => simp [h]
  next h => split <;> simp [h]

theorem combineOf_none {n : Nat} : combineOf n = none ↔ 2 < n := by
  match n with
  | 0 | 1 | 2 => simp [combineOf]
  | _ + 3 => exact iff_of_true rfl (by omega)

theorem combineOf_combineByte (c : CombineMode) : combineOf (combineByte c).toNat = some c := by
  cases c <;> rfl

theorem optChannel_channelField {i : Nat} (c : Option ChannelNo) (h : u8 pl i = (channelField c).toNat) :
    optChannel pl i = some c := by
  cases c with
  | none => exact optChannel_absent.2 h
  | some k =>
    have hk : u8 pl i = k.val := by
      rw [h]
      exact (put8_toNat k.val).trans (Nat.mod_eq_of_lt (by omega))
    unfold optChannel
    rw [if_neg (by omega), dif_pos (by omega)]
    exact congrArg (fun x => some (some x)) (Fin.ext hk)

theorem payloadBinding_of_fields {primary secondary : Option ChannelNo} {combine : CombineMode} {log : Bool}
    (hp : optChannel pl 1 = some primary) (hs : optChannel pl 2 = some secondary) (hc : combineOf (u8 pl 3) = some combine)
    (hl : yesNo (u8 pl 4) = some log) :
    payloadBinding pl = if secondary.isSome && (primary.isNone || secondary == primary) then none
      else some ⟨primary, secondary, combine, log⟩ := by
  rw [payloadBinding, hp, hs, hc, hl]

theorem payloadBinding_none_of_field (h : optChannel pl 1 = none ∨ optChannel pl 2 = none ∨ combineOf (u8 pl 3) = none
    ∨ yesNo (u8 pl 4) = none) : payloadBinding pl = none := by
  unfold payloadBinding
  split
  next hp hs hc hl => simp_all
  next => rfl

/-- A secondary channel without a primary, or the same as the primary, is no binding. -/
theorem payloadBinding_none_of_pair (hsecondary : u8 pl 2 ≠ 255) (h : u8 pl 1 = 255 ∨ u8 pl 1 = u8 pl 2) :
    payloadBinding pl = none := by
  rcases hp : optChannel pl 1 with _ | primary
  · exact payloadBinding_none_of_field (.inl hp)
  rcases hs : optChannel pl 2 with _ | secondary
  · exact payloadBinding_none_of_field (.inr (.inl hs))
  rcases hc : combineOf (u8 pl 3) with _ | combine
  · exact payloadBinding_none_of_field (.inr (.inr (.inl hc)))
  rcases hl : yesNo (u8 pl 4) with _ | log
  · exact payloadBinding_none_of_field (.inr (.inr (.inr hl)))
  rw [payloadBinding_of_fields hp hs hc hl]
  refine if_pos ?_
  have hsome : secondary.isSome = true := by
    rw [Option.isSome_iff_ne_none]
    rintro rfl
    exact hsecondary (optChannel_absent.1 hs)
  rw [hsome, Bool.true_and, Bool.or_eq_true, Option.isNone_iff_eq_none, beq_iff_eq]
  rcases h with h | h
  · exact .inl (Option.some.inj (hp.symm.trans (optChannel_absent.2 h)))
  · refine .inr (Option.some.inj (hs.symm.trans (Eq.trans ?_ hp)))
    unfold optChannel
    simp only [h]

theorem serveCellBind_state (h : s.op.state ≠ .stopped) : serveCellBind pl s = answer .state s := if_pos h

theorem serveCellBind_range (hstopped : s.op.state = .stopped)
    (h : presentCell s.map.passes (u8 pl 0) = none ∨ payloadBinding pl = none) : serveCellBind pl s = answer .range s := by
  rw [serveCellBind, if_neg (not_not.2 hstopped)]
  split
  next hi hb =>
    rw [hi, hb] at h
    exact h.elim nofun nofun
  next => rfl

theorem serveCellBind_bound {i : CellIndex} {binding : Binding} (hstopped : s.op.state = .stopped)
    (hi : presentCell s.map.passes (u8 pl 0) = some i) (hb : payloadBinding pl = some binding) :
    serveCellBind pl s = answer .done
      { s with map := { s.map with bindings := upd s.map.bindings i fun _ => binding } } := by
  rw [serveCellBind, if_neg (not_not.2 hstopped), hi, hb]

theorem cellBindWrites : CellBindWrites := by
  intro s p ht
  refine ⟨fun b0 b1 b2 b3 b4 => ⟨fun hstate => exec_of_refusal ht rfl (by decide) (serveCellBind_state hstate),
    fun hstopped hbad => exec_of_range ht rfl (serveCellBind_range hstopped ?_)⟩, fun i b hstopped hpresent hpair => ?_⟩
  · have hbyte : ∀ b : Byte, b ≠ 0xFF → b.toNat ≠ 255 := fun b hb heq => hb (BitVec.eq_of_toNat_eq heq)
    rcases hbad with h | h | ⟨h, hne⟩ | ⟨h, hne⟩ | ⟨hne, h⟩ | h | h
    · exact .inl (presentCell_eq_none (.inl h))
    · exact .inl (presentCell_eq_none (.inr h))
    · exact .inr (payloadBinding_none_of_field (.inl (optChannel_none.2 ⟨h, hbyte _ hne⟩)))
    · exact .inr (payloadBinding_none_of_field (.inr (.inl (optChannel_none.2 ⟨h, hbyte _ hne⟩))))
    · exact .inr (payloadBinding_none_of_pair (hbyte _ hne) (h.imp (congrArg BitVec.toNat) (congrArg BitVec.toNat)))
    · exact .inr (payloadBinding_none_of_field (.inr (.inr (.inl (combineOf_none.2 h)))))
    · exact .inr (payloadBinding_none_of_field (.inr (.inr (.inr (yesNo_none.2 h)))))
  · have hcell : presentCell s.map.passes (put8 i.val).toNat = some i := by rw [presentCell_put8, if_pos hpresent]
    have hbinding := payloadBinding_of_fields (pl := [put8 i.val, channelField b.primary, channelField b.secondary,
      combineByte b.combine, putBool b.logEnable]) (optChannel_channelField b.primary rfl)
      (optChannel_channelField b.secondary rfl) (combineOf_combineByte b.combine) (yesNo_putBool b.logEnable)
    rw [if_neg ?_] at hbinding
    · exact exec_of_done ht rfl (serveCellBind_bound hstopped hcell hbinding)
    · intro hbad
      rw [Bool.and_eq_true, Bool.or_eq_true, Option.isNone_iff_eq_none, beq_iff_eq] at hbad
      obtain ⟨hprimary, hne⟩ := hpair hbad.1
      rw [Option.isSome_iff_ne_none] at hprimary
      exact hbad.2.elim hprimary hne

/-- Settles O35: PASS_SET by `MapEngine.setPass`, CELL_BIND by the fields of its payload. -/
theorem passSetAndCellBind : Obligations.PassSetAndCellBind :=
  ⟨passSetWrites, cellBindWrites, byDefault_isReadKind .passSet⟩

end Sys2Proof.Machine
end

section
/-! PROOF. The reads of the Trend Store and the log, and the requests of the Notice Unit: TREND_READ, LOG_READ, NOTICE_MASK_SET and ATTENTION_SET (R137, R138, R146, R147, R155, R157). -/

namespace Sys2Proof.Machine

variable {s : State} {b age first count flag : Byte} {l : Log} {d n : Nat}

/-! ### TREND_READ (R137, R138) -/

theorem serveTrendRead_frame {p : PassNo} {f : Frame} (hf : s.trend.frameOfAge p age.toNat = some f)
    (hfirst : first.toNat < f.summary.stations) : serveTrendRead [put8 p.val, age, first, count] s =
      doneWith (trendReadBytes s.trend.passes[p] f p age.toNat first.toNat
        (min count.toNat (f.summary.stations - first.toNat))) s := by
  simp only [serveTrendRead, u8_zero, u8_succ, below_put8 (by decide : 4 ≤ 256) p, hf]
  exact if_neg (not_le.2 hfirst)

theorem frameOfAge_none {t : Trend} {p : PassNo} {k : Nat} (h : storedFrames t.passes[p] ≤ k) : t.frameOfAge p k = none :=
  if_neg (not_lt.2 h)

/-- Settles O45: by what the pass, age and station bytes name. -/
theorem trendReadReturnsStoredFrame : Obligations.TrendReadReturnsStoredFrame := by
  intro s port b age first count ht
  refine ⟨fun p f hb hf hfirst => ?_, fun hbad => exec_of_range ht rfl ?_⟩
  · rw [hb]
    exact exec_of_doneWith ht rfl (serveTrendRead_frame hf hfirst)
  · show serveTrendRead _ _ = _
    rcases hbad with hpass | ⟨p, rfl, hage⟩ | ⟨p, f, rfl, hf, hstation⟩
    · simp only [serveTrendRead, u8_zero, below_none.2 hpass]
    · simp only [serveTrendRead, u8_zero, u8_succ, below_put8 (by decide : 4 ≤ 256) p, frameOfAge_none hage]
    · simp only [serveTrendRead, u8_zero, u8_succ, below_put8 (by decide : 4 ≤ 256) p, hf]
      exact if_pos hstation

/-! ### LOG_READ (R146, R147) -/

/-- The records of a run that the log holds, one by one. -/
theorem run_of_held (hl : LogLaw l) (h : d + n ≤ l.count) :
    (l.run d n).length = n ∧ ∀ j < n, (l.run d n)[j]? = l.recordAt (d + j) := by
  obtain ⟨-, hheld, -⟩ := logLaw_iff.1 hl
  induction n with
  | zero => exact ⟨rfl, fun j hj => absurd hj (Nat.not_lt_zero j)⟩
  | succ n ih =>
    obtain ⟨hlen, hget⟩ := ih (by omega)
    obtain ⟨r, hr, -⟩ := hheld (d + n) (by omega)
    have hrun : l.run d (n + 1) = l.run d n ++ [r] := by
      rw [Log.run, List.range_succ, List.filterMap_append, Log.run]
      simp [hr]
    rw [hrun]
    refine ⟨by simp [hlen], fun j hj => ?_⟩
    rcases Nat.lt_succ_iff_lt_or_eq.1 hj with hlt | rfl
    · rw [List.getElem?_append_left (by omega)]
      exact hget j hlt
    · rw [List.getElem?_append_right (by omega), hlen, hr]
      simp

theorem positionBytes_eq (l : Log) :
    l.positionBytes = [l.oldest.extractLsb' 8 8, l.oldest.extractLsb' 0 8] ++ put16 l.count := by
  have h : BitVec.ofInt 16 (l.oldest.toNat : Int) = l.oldest := by
    rw [BitVec.ofInt_natCast, BitVec.ofNat_toNat, BitVec.setWidth_eq]
  rw [Log.positionBytes, show put16 (l.oldest.toNat : Int) = [l.oldest.extractLsb' 8 8, l.oldest.extractLsb' 0 8] from by
    rw [put16, h]]

theorem distance_field (l : Log) (hi lo : Byte) (pl : List Byte) :
    l.distance (u16 (hi :: lo :: pl) 0) = ((hi ++ lo) - l.oldest).toNat := by
  rw [Log.distance, u16_eq]
  show (BitVec.ofNat 16 (hi ++ lo : BitVec 16).toNat - l.oldest).toNat = _
  rw [BitVec.ofNat_toNat, BitVec.setWidth_eq]

/-- Settles O47: by the distance of the asked sequence from the oldest, the records from the log's law. -/
theorem logReadReturnsConsecutiveRecords : Obligations.LogReadReturnsConsecutiveRecords := by
  intro s p hi lo count ht hlaw
  dsimp only
  rw [← positionBytes_eq]
  have hserve : serveLogRead [hi, lo, count] s = if ((hi ++ lo) - s.log.oldest).toNat < s.log.count then
        doneWith (s.log.positionBytes
          ++ [put8 (min (min count.toNat 8) (s.log.count - ((hi ++ lo) - s.log.oldest).toNat))]
          ++ (s.log.run ((hi ++ lo) - s.log.oldest).toNat
            (min (min count.toNat 8) (s.log.count - ((hi ++ lo) - s.log.oldest).toNat))).flatMap recordBytes) s
      else if ((hi ++ lo) - s.log.oldest).toNat = s.log.count then doneWith (s.log.positionBytes ++ [0]) s
      else if 32768 ≤ ((hi ++ lo) - s.log.oldest).toNat then (⟨.gone, s.log.positionBytes⟩, s)
      else (⟨.range, s.log.positionBytes⟩, s) := by
    rw [← distance_field s.log hi lo [count]]
    rfl
  obtain ⟨hmax, hheld, -⟩ := logLaw_iff.1 hlaw
  generalize hd : ((hi ++ lo) - s.log.oldest).toNat = d at hserve ⊢
  refine ⟨fun hlt => ?_, fun heq => ?_, fun hgone => ?_, fun hgt hnear => ?_, byDefault_isReadKind .logRead⟩
  · have hn : d + min (min count.toNat 8) (s.log.count - d) ≤ s.log.count := by omega
    obtain ⟨hlen, hget⟩ := run_of_held hlaw hn
    refine ⟨s.log.run d (min (min count.toNat 8) (s.log.count - d)), hlen, fun j r hj => ?_, ?_⟩
    · have hjlt : j < min (min count.toNat 8) (s.log.count - d) := by
        rw [← hlen]
        exact (List.getElem?_eq_some_iff.1 hj).1
      rw [hget j hjlt] at hj
      obtain ⟨r', hr', hsequence⟩ := hheld (d + j) (by omega)
      obtain rfl := Option.some.inj (hj.symm.trans hr')
      refine ⟨?_, _, hj⟩
      rw [hsequence, BitVec.ofNat_add, ← hd, BitVec.ofNat_toNat, BitVec.setWidth_eq]
      bv_omega
    · rw [hlen]
      rw [if_pos hlt] at hserve
      exact exec_of_doneWith ht rfl hserve
  · rw [if_neg (by omega), if_pos heq] at hserve
    exact exec_of_doneWith ht rfl hserve
  · rw [if_neg (by omega), if_neg (by omega), if_pos hgone] at hserve
    exact exec_of_answer ht rfl hserve
  · rw [if_neg (by omega), if_neg (by omega), if_neg (by omega)] at hserve
    exact exec_of_answer ht rfl hserve

/-! ### NOTICE_MASK_SET and ATTENTION_SET (R155, R157) -/

theorem noticeKinds_none {x : Nat} (h : 16 ≤ x) : noticeKinds[x]? = none := List.getElem?_eq_none h

theorem noticeKinds_noticeKindByte (k : NoticeKind) : noticeKinds[(noticeKindByte k).toNat]? = some k := by
  cases k <;> rfl

theorem serveNoticeMaskSet_range (h : 16 ≤ b.toNat ∨ 1 < flag.toNat) :
    serveNoticeMaskSet [b, flag] s = answer .range s := by
  rw [serveNoticeMaskSet, u8_zero, u8_succ, u8_zero]
  rcases h with h | h
  · rw [noticeKinds_none h]
  · rw [yesNo_none.2 h]
    split
    next h => exact nomatch h
    next => rfl

theorem serveNoticeMaskSet_kind (k : NoticeKind) (masked : Bool) :
    serveNoticeMaskSet [noticeKindByte k, putBool masked] s = answer .done
      { s with notices := if masked then s.notices.mask k else s.notices.unmask k } := by
  rw [serveNoticeMaskSet, u8_zero, u8_succ, u8_zero, noticeKinds_noticeKindByte, yesNo_putBool]

theorem mask_eq (u : NoticeUnit) (k : NoticeKind) : u.mask k =
    { u with kinds := upd u.kinds (noticeIndex k) fun _ => ⟨true, u.kinds[noticeIndex k].pending⟩ } := by
  unfold NoticeUnit.mask
  congr 1
  exact upd_congr rfl

theorem unmask_of_unmasked {u : NoticeUnit} {k : NoticeKind} (h : u.kinds[noticeIndex k].masked = false) : u.unmask k = u := by
  rw [NoticeUnit.unmask, h]

theorem unmask_of_empty {u : NoticeUnit} {k : NoticeKind} (h : u.kinds[noticeIndex k].masked = true)
    (hr : u.kinds[noticeIndex k].pending = none) :
    u.unmask k = { u with kinds := upd u.kinds (noticeIndex k) fun _ => ⟨false, none⟩ } := by
  rw [NoticeUnit.unmask, h, hr]

theorem unmask_of_pending {u : NoticeUnit} {k : NoticeKind} {r : PendingRecord} (h : u.kinds[noticeIndex k].masked = true)
    (hr : u.kinds[noticeIndex k].pending = some r) :
    u.unmask k = NoticeUnit.offer { u with kinds := upd u.kinds (noticeIndex k) fun _ => ⟨false, none⟩ } (releasedEntry k r) := by
  rw [NoticeUnit.unmask, h, hr]

/-- An offer changes the queue and the flags alone. -/
theorem offer_frame (u : NoticeUnit) (e : QueueEntry) :
    u.offer e = { u with queue := (u.offer e).queue, flags := (u.offer e).flags } := by
  unfold NoticeUnit.offer
  (repeat' split) <;> rfl

/-- The offer of a held entry goes by the first case of R153 that applies. -/
theorem offer_released (u : NoticeUnit) {e : QueueEntry} (he : e.held = true) :
    PendingReleased u e (u.offer e).queue (u.offer e).flags := by
  refine ⟨fun hqueued => ?_, fun hne => ⟨fun hroom => ?_, fun front x back hfull hq hmin hfront hle => ?_, fun hfull hlt => ?_⟩⟩
  · rw [NoticeUnit.offer_of_queued hqueued]
    refine ⟨rfl, List.map_congr_left fun q _ => ?_⟩
    rw [countInto, he, Bool.or_true]
    rfl
  · rw [NoticeUnit.offer_of_room hne hroom]
    exact ⟨rfl, rfl⟩
  · rw [NoticeUnit.offer_displaces hne hfull hq hmin hfront hle]
    exact ⟨rfl, rfl⟩
  · rw [NoticeUnit.offer_loses hne hfull hlt]
    exact ⟨rfl, rfl⟩

/-- Settles O51: masking and unmasking by the kind's entry, the release by the four cases of an offer. -/
theorem maskAndAttentionRequests : Obligations.MaskAndAttentionRequests := by
  intro s p b flag
  refine ⟨fun ht => ⟨fun hbad => exec_of_range ht rfl (serveNoticeMaskSet_range hbad), fun k hb => ?_⟩,
    fun ht => ⟨fun hbad => exec_of_range ht rfl ?_, fun level hb => ?_⟩, byDefault_isReadKind .noticeMaskSet,
    byDefault_isReadKind .attentionSet⟩
  · subst hb
    dsimp only
    refine ⟨fun hf => ?_, fun hf hu => ?_, fun hf hm hr => ?_, fun r hf hm hr => ?_⟩
    · subst hf
      have h := serveNoticeMaskSet_kind (s := s) k true
      rw [if_pos rfl, mask_eq] at h
      exact exec_of_done ht rfl h
    · subst hf
      have h := serveNoticeMaskSet_kind (s := s) k false
      rw [if_neg Bool.false_ne_true, unmask_of_unmasked hu] at h
      exact exec_of_done ht rfl h
    · subst hf
      have h := serveNoticeMaskSet_kind (s := s) k false
      rw [if_neg Bool.false_ne_true, unmask_of_empty hm hr] at h
      exact exec_of_done ht rfl h
    · subst hf
      have h := serveNoticeMaskSet_kind (s := s) k false
      rw [if_neg Bool.false_ne_true, unmask_of_pending hm hr, offer_frame] at h
      exact ⟨_, _, exec_of_done ht rfl h, offer_released { s.notices with
        kinds := upd s.notices.kinds (noticeIndex k) fun _ => ⟨false, none⟩ } (e := releasedEntry k r) rfl⟩
  · rw [serveKind, serveAttentionSet, u8_zero, below_none.2 hbad]
  · subst hb
    have h : serveAttentionSet [put8 level.val] s = answer .done { s with notices := { s.notices with level := level } } := by
      rw [serveAttentionSet, u8_zero, below_put8 (by decide)]
    refine ⟨_, exec_of_done ht rfl h, rfl, ?_⟩
    rw [attentionLine_of_operating (s := { s with notices := { s.notices with level := level } }) ht.1]
    simp

end Sys2Proof.Machine
end

section
/-! PROOF. The conversion (R46 to R57): a curve read by its segments, forward and backwards, and the stages of a reading. -/

namespace Sys2Proof.Machine

variable {key val : Breakpoint → Int} {x t ec : Int} {a b first last : Breakpoint} {curve before after l : List Breakpoint}

/-! ### The line through a segment (R48, R51) -/

/-- The value at `x` of the line through the segment's two breakpoints, rounded. -/
def lineAt (key val : Breakpoint → Int) (a b : Breakpoint) (x : Int) : Int :=
  val a + roundDiv ((x - key a) * (val b - val a)) (key b - key a)

theorem lineAt_upper (h : key a < key b) : lineAt key val a b (key b) = val b := by
  rw [lineAt, mul_comm, roundDiv_mul_self (by omega)]
  omega

theorem lineAt_lower (h : key a < key b) : lineAt key val a b (key a) = val a := by
  have hzero := roundDiv_mul_self (a := 0) (d := key b - key a) (by omega)
  rw [lineAt, sub_self, zero_mul, ← zero_mul (key b - key a), hzero]
  omega

theorem lineAt_between (hkey : key a < key b) (hval : val a ≤ val b) (hlow : key a ≤ x) (hhigh : x ≤ key b) :
    val a ≤ lineAt key val a b x ∧ lineAt key val a b x ≤ val b := by
  have h := moved_between (old := val a) (new := val b) (x := x - key a) (d := key b - key a) (by omega) (by omega) (by omega)
  rw [min_eq_left hval, max_eq_right hval, mul_comm] at h
  exact h

/-! ### The segment of a value (R48, R49, R51) -/

theorem segment_cons_cons (rest : List Breakpoint) : segment key x (a :: b :: rest) =
    if x ≤ key b ∨ rest = [] then some (a, b) else segment key x (b :: rest) := by
  rw [segment]
  simp

/-- The segment found: its lower breakpoint lies below the value unless it is the curve's first, and its upper
one not below it unless it is the last. -/
theorem segment_spec (h : 2 ≤ l.length) : ∃ before a b after, l = before ++ a :: b :: after
    ∧ segment key x l = some (a, b) ∧ (before = [] ∨ key a < x) ∧ (after = [] ∨ x ≤ key b) := by
  induction l with
  | nil => exact absurd h (by decide)
  | cons a l ih =>
    cases l with
    | nil => exact absurd h (Nat.not_succ_le_self 1)
    | cons b rest =>
      rw [segment_cons_cons]
      by_cases hfound : x ≤ key b ∨ rest = []
      · exact ⟨[], a, b, rest, rfl, if_pos hfound, .inl rfl, hfound.symm⟩
      · obtain ⟨hx, hrest⟩ := not_or.1 hfound
        obtain ⟨c, rest, rfl⟩ := List.exists_cons_of_ne_nil hrest
        obtain ⟨before, a', b', after, hl, hseg, hlow, hhigh⟩ := ih (by simp)
        refine ⟨a :: before, a', b', after, congrArg (a :: ·) hl, (if_neg hfound).trans hseg, .inr ?_, hhigh⟩
        rcases hlow with rfl | hlow
        · obtain ⟨rfl, -⟩ := List.cons.inj hl
          exact not_le.1 hx
        · exact hlow

/-- Wherever two segments meet both give the breakpoint's own value: the line of any segment that holds `x` is the
line of the one found. -/
theorem segment_line (hsorted : (before ++ a :: b :: after).Pairwise fun p q => key p < key q)
    (hlow : before = [] ∨ key a ≤ x) (hhigh : after = [] ∨ x ≤ key b) :
    ∃ p q, segment key x (before ++ a :: b :: after) = some (p, q) ∧ lineAt key val p q x = lineAt key val a b x := by
  have hhere : segment key x (a :: b :: after) = some (a, b) := by
    rw [segment_cons_cons]
    exact if_pos hhigh.symm
  induction before with
  | nil => exact ⟨a, b, hhere, rfl⟩
  | cons y ys ih =>
    have hax : key a ≤ x := hlow.resolve_left (List.cons_ne_nil y ys)
    obtain ⟨hy, hrest⟩ := List.pairwise_cons.1 hsorted
    cases ys with
    | nil =>
      rw [List.singleton_append, segment_cons_cons]
      by_cases hmeet : x ≤ key a
      · obtain rfl : x = key a := le_antisymm hmeet hax
        refine ⟨y, a, if_pos (.inl hmeet), ?_⟩
        have hab : key a < key b := (List.pairwise_cons.1 hrest).1 b (List.mem_cons_self ..)
        rw [lineAt_upper (hy a (by simp)), lineAt_lower hab]
      · exact ⟨a, b, (if_neg (by simp [hmeet])).trans hhere, rfl⟩
    | cons z zs =>
      have hza : key z < key a := (List.pairwise_cons.1 hrest).1 a (by simp)
      obtain ⟨p, q, hseg, hline⟩ := ih hrest (.inr hax)
      refine ⟨p, q, ?_, hline⟩
      rw [List.cons_append, List.cons_append, segment_cons_cons, if_neg (by simp; omega)]
      exact hseg

/-! ### The curve's law -/

theorem CurveLaw.emf_sorted (h : CurveLaw curve) : curve.Pairwise fun p q => p.emf < q.emf := by
  rcases h with rfl | ⟨-, -, -, hsorted⟩
  · exact .nil
  · exact hsorted.imp And.left

theorem CurveLaw.temp_sorted (h : CurveLaw curve) : curve.Pairwise fun p q => p.temp < q.temp := by
  rcases h with rfl | ⟨-, -, -, hsorted⟩
  · exact .nil
  · exact hsorted.imp And.right

theorem CurveLaw.two_le (h : CurveLaw curve) (hne : curve ≠ []) : 2 ≤ curve.length := by
  rcases h with rfl | ⟨hlength, -⟩
  · exact absurd rfl hne
  · exact hlength

/-- The head of a sorted curve has no breakpoint before it. -/
theorem before_nil_of_head (hsorted : (before ++ a :: after).Pairwise fun p q => key p < key q)
    (h : (before ++ a :: after).head? = some a) : before = [] := by
  cases before with
  | nil => rfl
  | cons y ys =>
    obtain rfl : y = a := Option.some.inj h
    exact absurd ((List.pairwise_cons.1 hsorted).1 y (by simp)) (lt_irrefl _)

/-- The last of a sorted curve has no breakpoint after it. -/
theorem after_nil_of_last (hsorted : (before ++ b :: after).Pairwise fun p q => key p < key q)
    (h : (before ++ b :: after).getLast? = some b) : after = [] := by
  cases after with
  | nil => rfl
  | cons y ys =>
    have hmem : b ∈ y :: ys := by
      rw [List.getLast?_append_of_ne_nil _ (List.cons_ne_nil b _), List.getLast?_cons_cons] at h
      exact List.mem_of_getLast? h
    have hb := (List.pairwise_append.1 hsorted).2.1
    exact absurd ((List.pairwise_cons.1 hb).1 b hmem) (lt_irrefl _)

/-! ### The curve read by its segments (R48, R49, R51, R52) -/

theorem coldJunctionEmf_of_segment (h : segment Breakpoint.temp t curve = some (a, b)) :
    coldJunctionEmf curve t = lineAt Breakpoint.temp Breakpoint.emf a b t := by
  rw [coldJunctionEmf, h]
  rfl

theorem forwardReading_of_segment (hfirst : curve.head? = some first) (hlast : curve.getLast? = some last)
    (h : segment Breakpoint.emf ec curve = some (a, b)) : forwardReading curve ec =
      if ec < first.emf then (first.temp, .rangeLow)
      else if last.emf < ec then (last.temp, .rangeHigh)
      else (lineAt Breakpoint.emf Breakpoint.temp a b ec, .ok) := by
  rw [forwardReading, hfirst, hlast, h]
  rfl

theorem exists_head_last (h : curve ≠ []) : ∃ first last, curve.head? = some first ∧ curve.getLast? = some last :=
  ⟨curve.head h, curve.getLast h, List.head?_eq_some_head h, List.getLast?_eq_some_getLast h⟩

/-- Every breakpoint stands between the first and the last. -/
theorem first_le (hsorted : curve.Pairwise fun p q => key p < key q) (hfirst : curve.head? = some first) (hb : b ∈ curve) :
    key first ≤ key b := by
  obtain ⟨rest, rfl⟩ := List.head?_eq_some_iff.1 hfirst
  rcases List.mem_cons.1 hb with rfl | hb
  · exact le_rfl
  · exact ((List.pairwise_cons.1 hsorted).1 b hb).le

theorem le_last (hsorted : curve.Pairwise fun p q => key p < key q) (hlast : curve.getLast? = some last) (hb : b ∈ curve) :
    key b ≤ key last := by
  obtain ⟨rest, rfl⟩ := List.getLast?_eq_some_iff.1 hlast
  rcases List.mem_append.1 hb with hb | hb
  · exact ((List.pairwise_append.1 hsorted).2.2 b hb last (List.mem_singleton_self _)).le
  · rw [List.mem_singleton.1 hb]

theorem segment_sorted (hsorted : (before ++ a :: b :: after).Pairwise fun p q => key p < key q) : key a < key b :=
  (List.pairwise_cons.1 (List.pairwise_append.1 hsorted).2.1).1 b (List.mem_cons_self ..)

theorem curveIsReadBySegments : CurveIsReadBySegments := by
  rintro curve a b hlaw ⟨before, after, rfl⟩
  refine ⟨fun t hlow hhigh => ?_, fun ec hlow hhigh => ?_⟩
  · have hlow' : before = [] ∨ a.temp ≤ t := hlow.symm.imp_left (before_nil_of_head hlaw.temp_sorted)
    have hhigh' : after = [] ∨ t ≤ b.temp := hhigh.symm.imp_left fun h =>
      after_nil_of_last (before := before ++ [a]) (by simpa using hlaw.temp_sorted) (by simpa using h)
    obtain ⟨p, q, hseg, hline⟩ := segment_line (val := Breakpoint.emf) hlaw.temp_sorted hlow' hhigh'
    exact (coldJunctionEmf_of_segment hseg).trans hline
  · obtain ⟨p, q, hseg, hline⟩ := segment_line (val := Breakpoint.temp) hlaw.emf_sorted (.inr hlow) (.inr hhigh)
    obtain ⟨first, last, hfirst, hlast⟩ := exists_head_last (curve := before ++ a :: b :: after) (by simp)
    have hinside : first.emf ≤ ec := (first_le hlaw.emf_sorted hfirst (by simp)).trans hlow
    have hinside' : ec ≤ last.emf := hhigh.trans (le_last hlaw.emf_sorted hlast (by simp))
    rw [forwardReading_of_segment hfirst hlast hseg, if_neg (not_lt.2 hinside), if_neg (not_lt.2 hinside'), hline]
    rfl

/-- Every breakpoint of a loaded curve gives its own temperature: it is the end of a segment. -/
theorem forwardReading_breakpoint (hlaw : CurveLaw curve) (hb : b ∈ curve) : forwardReading curve b.emf = (b.temp, .ok) := by
  have hread : ∀ p q, SegmentOf curve p q → ∀ ec, p.emf ≤ ec → ec ≤ q.emf →
      forwardReading curve ec = (lineAt Breakpoint.emf Breakpoint.temp p q ec, .ok) :=
    fun p q hpq => (curveIsReadBySegments curve p q hlaw hpq).2
  have hsorted := hlaw.emf_sorted
  have htwo := hlaw.two_le (List.ne_nil_of_mem hb)
  obtain ⟨before, after, rfl⟩ := List.append_of_mem hb
  cases after with
  | cons c after =>
    have hbc := segment_sorted hsorted
    rw [hread b c ⟨before, after, rfl⟩ b.emf le_rfl hbc.le, lineAt_lower (val := Breakpoint.temp) hbc]
  | nil =>
    rcases List.eq_nil_or_concat before with rfl | ⟨before, a, rfl⟩
    · exact absurd htwo (Nat.not_succ_le_self 1)
    · rw [List.concat_eq_append, List.append_assoc, List.singleton_append] at hsorted hread ⊢
      have hab := segment_sorted hsorted
      rw [hread a b ⟨before, [], rfl⟩ b.emf hab.le le_rfl, lineAt_upper (val := Breakpoint.temp) hab]

theorem forwardReadingStaysOnTheCurve : ForwardReadingStaysOnTheCurve := by
  intro curve first last ec hlaw hfirst hlast
  have hne : curve ≠ [] := by
    rintro rfl
    exact nomatch hfirst
  have hemf := hlaw.emf_sorted
  have htemp := hlaw.temp_sorted
  have hmemFirst : first ∈ curve := List.mem_of_mem_head? hfirst
  have hmemLast : last ∈ curve := List.mem_of_getLast? hlast
  have hends : first.emf ≤ last.emf := first_le hemf hfirst hmemLast
  have htemps : first.temp ≤ last.temp := first_le htemp hfirst hmemLast
  obtain ⟨before, a, b, after, hcurve, hseg, hlow, hhigh⟩ := segment_spec (key := Breakpoint.emf) (x := ec) (hlaw.two_le hne)
  have hreading := forwardReading_of_segment hfirst hlast hseg
  refine ⟨?_, fun b hb => forwardReading_breakpoint hlaw hb⟩
  dsimp only
  rw [hreading]
  by_cases hbelow : ec < first.emf
  · rw [if_pos hbelow]
    exact ⟨le_rfl, htemps, fun _ => rfl, fun h => absurd h (by omega), fun h => absurd h (by omega)⟩
  rw [if_neg hbelow]
  by_cases habove : last.emf < ec
  · rw [if_pos habove]
    exact ⟨htemps, le_rfl, fun h => absurd h hbelow, fun _ => rfl, fun _ h => absurd h (by omega)⟩
  rw [if_neg habove]
  have ha : a ∈ curve := by simp [hcurve]
  have hb : b ∈ curve := by simp [hcurve]
  have hlow' : a.emf ≤ ec := by
    rcases hlow with rfl | hlow
    · rw [hcurve] at hfirst
      obtain rfl : a = first := Option.some.inj hfirst
      omega
    · exact hlow.le
  have hhigh' : ec ≤ b.emf := by
    rcases hhigh with rfl | hhigh
    · rw [hcurve] at hlast
      obtain rfl : b = last := by simpa using hlast
      omega
    · exact hhigh
  have hbetween := lineAt_between (val := Breakpoint.temp) (segment_sorted (hcurve ▸ hemf))
    (segment_sorted (hcurve ▸ htemp)).le hlow' hhigh'
  exact ⟨(first_le htemp hfirst ha).trans hbetween.1, hbetween.2.trans (le_last htemp hlast hb),
    fun h => absurd h hbelow, fun h => absurd h habove, fun _ _ => rfl⟩

/-! ### The stages of a reading (R46, R47, R50 to R57) -/

variable {e : ChannelEntry} {k : CardEntry} {emf tcj : Int}

/-- A reading with a measured EMF in range on a loaded curve. -/
theorem convert_of_stages (hlow : -10000 ≤ emf) (hhigh : emf ≤ 80000) (hne : curve ≠ []) :
    convert e curve k emf false =
      let forward := forwardReading curve (emf + coldJunctionEmf curve k.inForce)
      let value := clampTo e.lowClamp e.highClamp (trim e.gain e.offset forward.1)
      ⟨forward.2, some value.1, forward.2 != .ok || value.2, k.cjHeld, false⟩ := by
  have hrange : (decide (emf < -10000) || decide (80000 < emf)) = false := by simp; omega
  have hloaded : curve.isEmpty = false := by simpa using hne
  rw [convert, hrange, hloaded]
  rfl

theorem clampTo_value {low high v : Int} (h : low < high) : (clampTo low high v).1 = max low (min high v) := by
  unfold clampTo
  (repeat' split) <;> omega

theorem clampTo_limited {low high v : Int} : (clampTo low high v).2 = true ↔ v < low ∨ high < v := by
  unfold clampTo
  split
  next h => simp [h]
  next h =>
    split
    next h' => simp [h']
    next h' => simp [h, h']

theorem inForce_eq (h : k.lastGood = some tcj ∨ (k.lastGood = none ∧ tcj = k.substitute)) : k.inForce = tcj := by
  rcases h with h | ⟨h, rfl⟩
  · rw [CardEntry.inForce, h, Option.getD_some]
  · rw [CardEntry.inForce, h, Option.getD_none]

theorem conversionGoesByStages : ConversionGoesByStages := by
  intro e curve k emf tcj hlow hhigh hne hclamps htcj
  dsimp only
  rw [convert_of_stages hlow hhigh hne, inForce_eq htcj]
  refine ⟨rfl, congrArg some (clampTo_value hclamps), ?_, rfl⟩
  rw [Bool.or_eq_true, bne_iff_ne, clampTo_limited]
  rfl

theorem forwardReading_status (curve : List Breakpoint) (ec : Int) : (forwardReading curve ec).2 = .ok
    ∨ (forwardReading curve ec).2 = .rangeLow ∨ (forwardReading curve ec).2 = .rangeHigh := by
  unfold forwardReading
  split
  · split
    · exact .inr (.inl rfl)
    · split
      · exact .inr (.inr rfl)
      · exact .inl rfl
  · exact .inl rfl

theorem conversionReadings : ConversionReadings := by
  intro e curve k emf
  refine ⟨rfl, fun hbad => ?_, fun hlow hhigh hne hclamps => ?_⟩
  · rw [convert, if_neg Bool.false_ne_true]
    by_cases hrange : (decide (emf < -10000) || decide (80000 < emf)) = true
    · rw [if_pos hrange]
      rfl
    · rw [if_neg hrange]
      rw [Bool.or_eq_true, decide_eq_true_iff, decide_eq_true_iff, not_or] at hrange
      obtain rfl : curve = [] := (hbad.resolve_left hrange.1).resolve_left hrange.2
      rfl
  · rw [convert_of_stages hlow hhigh hne]
    have hbounds := clampTo_bounds (t := trim e.gain e.offset
      (forwardReading curve (emf + coldJunctionEmf curve k.inForce)).1) hclamps.le
    refine ⟨_, rfl, hbounds.1, hbounds.2, rfl, ?_⟩
    rcases forwardReading_status curve (emf + coldJunctionEmf curve k.inForce) with h | h
    · exact .inl h
    · refine .inr ⟨h, ?_⟩
      rcases h with h | h <;> simp [h]

/-- Settles O27: the curve by its segments, the stages by the equation of a conversion. -/
theorem conversionStages : Obligations.ConversionStages :=
  ⟨forwardReadingStaysOnTheCurve, conversionReadings, curveIsReadBySegments, conversionGoesByStages⟩

end Sys2Proof.Machine
end

section
/-! PROOF. PUBLICATION (R14, R81, R92 to R95, R97, R135): the published map, the latch, and what is sent. -/

namespace Sys2Proof.Machine

variable {s : State} {m : MapEngine} {c : Computation}

theorem removeTaken_eq_some {α : Type} {x : Option (Entry α)} {e : Entry α} :
    removeTaken x = some e ↔ x = some e ∧ e.taken = false := by
  rw [removeTaken, Option.filter_eq_some_iff, Bool.not_eq_true']

theorem computedCells_scanNumber {i : CellIndex} (h : isPresent m.passes i = true) :
    (computedCells m c)[i].scanNumber = c.source.image.number := by
  rw [computedCells_get h rfl]
  rfl

theorem completed_mapPublished (m : MapEngine) (c : Computation) : MapPublished m c (m.completed c) := by
  refine ⟨rfl, rfl, rfl, rfl, rfl, fun i hi => ?_, fun p => ?_, fun z e => ?_, fun p e => ?_, fun p e => ?_⟩
  · have hcell : (m.completed c).published.cells[i] = (computedCells m c)[i] := by
      rw [MapEngine.completed_published]
      dsimp only
      rw [Fin.getElem_fin, tab_get]
      exact if_pos hi
    exact ⟨hcell, hcell ▸ computedCells_scanNumber hi⟩
  · have hsummary : (m.completed c).published.summaries[p]
        = summaryOf m.passes (computedCells m c) c.source.image (checkedPasses m c)[p].spreadFlag p := by
      rw [MapEngine.completed_published, publishedSummaries]
      exact tab_get _ _ _
    rw [hsummary]
    exact ⟨tab_get _ _ _, rfl, rfl, rfl, rfl, rfl, rfl⟩
  · rw [MapEngine.completed_latch, ControlLatch.dropTaken, Fin.getElem_fin, tab_get]
    exact removeTaken_eq_some
  · rw [MapEngine.completed_latch, ControlLatch.dropTaken, Fin.getElem_fin, tab_get]
    exact removeTaken_eq_some
  · rw [MapEngine.completed_latch, ControlLatch.dropTaken, Fin.getElem_fin, tab_get]
    exact removeTaken_eq_some

theorem publish_computing (hc : s.map.computing = some c) : s.publish = State.send
    { s with map := (s.map.completed c).takeWaiting, trend := (s.trend.takeAll (publicationFrames s.map c)).1 }
    (publicationSends s c) := by
  rw [State.publish, hc]
  rfl

/-- Settles O40: the published map from the completed engine, the streams from `State.send_emits`. -/
theorem publicationReplacesTheMap : Obligations.PublicationReplacesTheMap := by
  intro s c hop hc
  have hexec : exec .publication s = .next s.publish := congrArg Host.Outcome.next (if_pos hop)
  refine ⟨s.publish, s.map.completed c, hexec, completed_mapPublished s.map c, fun hw => ?_, fun next hw => ?_, ?_, ?_, ?_⟩
  · rw [publish_computing hc, State.send_map, MapEngine.takeWaiting, MapEngine.completed_waiting, hw]
    exact congrArg (fun w => { s.map.completed c with waiting := w }) hw
  · rw [publish_computing hc, State.send_map, MapEngine.takeWaiting, MapEngine.completed_waiting, hw]
  · rw [publish_computing hc]
    rfl
  · rw [publish_computing hc]
    exact State.send_emits { s with
      map := (s.map.completed c).takeWaiting, trend := (s.trend.takeAll (publicationFrames s.map c)).1 } _
  · rw [publish_computing hc]
    rfl

end Sys2Proof.Machine
end

section
/-! PROOF. The streams of a publication (R94 to R97, R129): the order of its records, notices and frames, and the notices that go with its records. -/

namespace Sys2Proof.Machine

variable {m : MapEngine} {c : Computation} {image : ScanImage} {i : CellIndex} {p : PassNo} {r : RecordBody} {n : Notice}
  {held released bound : Bool} {b : Binding} {old new : CellState}

/-! ### The records of a cell, group by group (R95) -/

/-- The group of a record about a cell: source, band, rate, disagreement. -/
def recordGroup : RecordKind → Nat
  | .sourceLost | .sourceBack => 0
  | .bandRise | .bandFall => 1
  | .rateOn | .rateOff => 2
  | _ => 3

theorem recordRank_cell (h : r.subject = .cell i) :
    recordRank r = (passOf i).val * 256 + 1 + (stationOf i).val * 4 + recordGroup r.kind := by
  simp only [recordRank, h]
  congr 1

theorem recordRank_pass (h : r.subject = .pass p) :
    recordRank r = p.val * 256 + (if r.kind = .holdOn ∨ r.kind = .holdOff then 0 else 255) := by
  rw [recordRank, h]

/-- At most one record, of the group `k`, stamped with the scan of the image. -/
structure OneOfGroup (image : ScanImage) (k : Nat) (l : List RecordBody) : Prop where
  one : l.length ≤ 1
  group : ∀ r ∈ l, recordGroup r.kind = k
  stamps : ∀ r ∈ l, r.scanNumber = image.number ∧ r.timeTag = image.timeTag

theorem oneOfGroup_nil (image : ScanImage) (k : Nat) : OneOfGroup image k [] :=
  ⟨Nat.zero_le 1, fun _ h => absurd h List.not_mem_nil, fun _ h => absurd h List.not_mem_nil⟩

theorem oneOfGroup_cellRecord {kind : RecordKind} {k : Nat} (hk : recordGroup kind = k) (value : Option Int)
    (bands : Option (Band × Band)) : OneOfGroup image k [cellRecord image i new kind value bands] := by
  refine ⟨Nat.le_refl 1, fun r h => ?_, fun r h => ?_⟩
  · rw [List.mem_singleton.1 h]
    exact hk
  · rw [List.mem_singleton.1 h]
    exact ⟨rfl, rfl⟩

theorem oneOfGroup_sourceRecord : OneOfGroup image 0 (sourceRecord image i bound old new) := by
  unfold sourceRecord
  split
  · split
    · exact oneOfGroup_cellRecord (by rfl) _ _
    · split
      · exact oneOfGroup_cellRecord (by rfl) _ _
      · exact oneOfGroup_nil ..
  · exact oneOfGroup_nil ..

theorem oneOfGroup_bandRecord : OneOfGroup image 1 (bandRecord image i released old new) := by
  unfold bandRecord
  dsimp only
  split
  · exact oneOfGroup_nil ..
  · split <;> exact oneOfGroup_cellRecord (by rfl) _ _

theorem oneOfGroup_rateRecord : OneOfGroup image 2 (rateRecord image i held released old new) := by
  simp only [rateRecord]
  split
  · exact oneOfGroup_nil ..
  · cases new.flags.rate <;> exact oneOfGroup_cellRecord (by rfl) _ _

theorem oneOfGroup_disagreeRecord : OneOfGroup image 3 (disagreeRecord image i held released b old new) := by
  simp only [disagreeRecord]
  split
  · exact oneOfGroup_nil ..
  · cases new.flags.disagree <;> exact oneOfGroup_cellRecord (by rfl) _ _

theorem pairwise_of_length_le_one {α : Type} {R : α → α → Prop} {l : List α} (h : l.length ≤ 1) : l.Pairwise R := by
  match l with
  | [] => exact .nil
  | [a] => exact List.pairwise_singleton R a
  | _ :: _ :: _ => simp at h

/-- The records of a cell stand in the order of their groups. -/
theorem cellRecords_sorted : (cellRecords image i held released b old new).Pairwise
    fun x y => recordGroup x.kind < recordGroup y.kind := by
  unfold cellRecords
  split
  · have hs := oneOfGroup_sourceRecord (image := image) (i := i) (bound := b.primary.isSome) (old := old) (new := new)
    have hb := oneOfGroup_bandRecord (image := image) (i := i) (released := released) (old := old) (new := new)
    have hr := oneOfGroup_rateRecord (image := image) (i := i) (held := held) (released := released) (old := old) (new := new)
    have hd := oneOfGroup_disagreeRecord (image := image) (i := i) (held := held) (released := released) (b := b)
      (old := old) (new := new)
    simp only [List.pairwise_append, List.mem_append]
    refine ⟨⟨⟨pairwise_of_length_le_one hs.one, pairwise_of_length_le_one hb.one, fun x hx y hy => ?_⟩,
      pairwise_of_length_le_one hr.one, fun x hx y hy => ?_⟩, pairwise_of_length_le_one hd.one, fun x hx y hy => ?_⟩
    · rw [hs.group x hx, hb.group y hy]
      decide
    · rw [hr.group y hy]
      rcases hx with hx | hx
      · rw [hs.group x hx]
        decide
      · rw [hb.group x hx]
        decide
    · rw [hd.group y hy]
      rcases hx with (hx | hx) | hx
      · rw [hs.group x hx]
        decide
      · rw [hb.group x hx]
        decide
      · rw [hr.group x hx]
        decide
  · exact .nil

theorem recordsOfCell_sorted (m : MapEngine) (c : Computation) (i : CellIndex) :
    (recordsOfCell m c i).Pairwise fun x y => recordGroup x.kind < recordGroup y.kind := by
  unfold recordsOfCell
  split
  · exact cellRecords_sorted
  · exact .nil

theorem stamps_of_mem_recordsOfCell (h : r ∈ recordsOfCell m c i) :
    r.scanNumber = c.source.image.number ∧ r.timeTag = c.source.image.timeTag := by
  unfold recordsOfCell cellRecords at h
  split at h
  · split at h
    · simp only [List.mem_append] at h
      rcases h with ((h | h) | h) | h
      · exact oneOfGroup_sourceRecord.stamps r h
      · exact oneOfGroup_bandRecord.stamps r h
      · exact oneOfGroup_rateRecord.stamps r h
      · exact oneOfGroup_disagreeRecord.stamps r h
    · exact absurd h List.not_mem_nil
  · exact absurd h List.not_mem_nil

theorem recordGroup_le (k : RecordKind) : recordGroup k ≤ 3 := by cases k <;> decide

/-! ### The records of a pass (R95, R124) -/

/-- The hold record of a pass: at most one, of its two kinds. -/
theorem mem_holdRecord : r ∈ holdRecord c p ↔ (c.holdRecords[p] = some true ∧ r = passRecord c.source.image p .holdOn none none)
    ∨ (c.holdRecords[p] = some false ∧ r = passRecord c.source.image p .holdOff none none) := by
  unfold holdRecord
  split
  next h => simp [h]
  next h => simp [h]
  next h => simp [h]

theorem length_holdRecord (c : Computation) (p : PassNo) : (holdRecord c p).length ≤ 1 := by
  unfold holdRecord
  split <;> simp

theorem length_spreadRecord (m : MapEngine) (c : Computation) (p : PassNo) : (spreadRecord m c p).length ≤ 1 := by
  unfold spreadRecord
  dsimp only
  split <;> simp

/-- The spread record of a pass, where there is one, is SPREAD_ON or SPREAD_OFF. -/
theorem spreadRecord_of_mem (h : r ∈ spreadRecord m c p) : ∃ kind, (kind = .spreadOn ∨ kind = .spreadOff)
    ∧ r = passRecord c.source.image p kind (publishedSummaries m c)[p].hottestStation (publishedSummaries m c)[p].spread := by
  unfold spreadRecord at h
  dsimp only at h
  split at h
  · exact absurd h List.not_mem_nil
  · refine ⟨_, ?_, List.mem_singleton.1 h⟩
    split
    · exact .inl rfl
    · exact .inr rfl

theorem recordRank_holdRecord (h : r ∈ holdRecord c p) : recordRank r = p.val * 256 := by
  have hkind : r.kind = .holdOn ∨ r.kind = .holdOff := by
    rcases mem_holdRecord.1 h with ⟨-, rfl⟩ | ⟨-, rfl⟩
    · exact .inl rfl
    · exact .inr rfl
  rw [recordRank_pass (subject_of_mem_holdRecord h), if_pos hkind, Nat.add_zero]

theorem recordRank_spreadRecord (h : r ∈ spreadRecord m c p) : recordRank r = p.val * 256 + 255 := by
  rw [recordRank_pass (subject_of_mem_spreadRecord h)]
  obtain ⟨kind, hkind, rfl⟩ := spreadRecord_of_mem h
  rw [if_neg]
  show ¬ (kind = .holdOn ∨ kind = .holdOff)
  rcases hkind with rfl | rfl <;> decide

/-! ### The records of a publication in their order (R95) -/

theorem pairwise_cellsOfPass {R : CellIndex → CellIndex → Prop} (p : PassNo)
    (h : ∀ t u : Station, t < u → R (cellAt p t) (cellAt p u)) : (cellsOfPass p).Pairwise R :=
  List.pairwise_map.2 ((List.pairwise_lt_finRange 32).imp (h _ _))

theorem mem_cellsOfPass : i ∈ cellsOfPass p ↔ ∃ t : Station, cellAt p t = i := by simp [cellsOfPass]

theorem recordRank_recordsOfCell {t : Station} (h : r ∈ recordsOfCell m c (cellAt p t)) :
    recordRank r = p.val * 256 + 1 + t.val * 4 + recordGroup r.kind := by
  rw [recordRank_cell (subject_of_mem_recordsOfCell h).1, passOf_cellAt, stationOf_cellAt]

/-- The cells' records of a pass stand in their order. -/
theorem cellsRecords_sorted (m : MapEngine) (c : Computation) (p : PassNo) :
    ((cellsOfPass p).flatMap (recordsOfCell m c)).Pairwise fun a b => recordRank a < recordRank b := by
  refine List.pairwise_flatMap.2 ⟨fun i hi => ?_, pairwise_cellsOfPass p fun t u htu a ha b hb => ?_⟩
  · obtain ⟨t, rfl⟩ := mem_cellsOfPass.1 hi
    refine (recordsOfCell_sorted m c _).imp_of_mem fun {a b} ha hb hlt => ?_
    rw [recordRank_recordsOfCell ha, recordRank_recordsOfCell hb]
    omega
  · rw [recordRank_recordsOfCell ha, recordRank_recordsOfCell hb]
    have := recordGroup_le a.kind
    have : t.val < u.val := htu
    omega

theorem recordRank_cellsRecords (h : r ∈ (cellsOfPass p).flatMap (recordsOfCell m c)) :
    p.val * 256 < recordRank r ∧ recordRank r < p.val * 256 + 255 := by
  obtain ⟨i, hi, hr⟩ := List.mem_flatMap.1 h
  obtain ⟨t, rfl⟩ := mem_cellsOfPass.1 hi
  rw [recordRank_recordsOfCell hr]
  have := recordGroup_le r.kind
  have := t.isLt
  omega

/-- The records of a pass at a publication. -/
def recordsOfPass (m : MapEngine) (c : Computation) (p : PassNo) : List RecordBody :=
  holdRecord c p ++ (cellsOfPass p).flatMap (recordsOfCell m c) ++ spreadRecord m c p

theorem publicationRecords_eq (m : MapEngine) (c : Computation) :
    publicationRecords m c = (List.finRange 4).flatMap (recordsOfPass m c) := rfl

theorem mem_recordsOfPass : r ∈ recordsOfPass m c p ↔ r ∈ holdRecord c p
    ∨ r ∈ (cellsOfPass p).flatMap (recordsOfCell m c) ∨ r ∈ spreadRecord m c p := by
  rw [recordsOfPass, List.mem_append, List.mem_append, or_assoc]

theorem recordsOfPass_sorted (m : MapEngine) (c : Computation) (p : PassNo) :
    (recordsOfPass m c p).Pairwise fun a b => recordRank a < recordRank b := by
  refine List.pairwise_append.2 ⟨List.pairwise_append.2 ⟨pairwise_of_length_le_one (length_holdRecord c p),
    cellsRecords_sorted m c p, fun a ha b hb => ?_⟩, pairwise_of_length_le_one (length_spreadRecord m c p), fun a ha b hb => ?_⟩
  · rw [recordRank_holdRecord ha]
    exact (recordRank_cellsRecords hb).1
  · rw [recordRank_spreadRecord hb]
    rcases List.mem_append.1 ha with ha | ha
    · rw [recordRank_holdRecord ha]
      omega
    · exact (recordRank_cellsRecords ha).2

theorem recordRank_recordsOfPass (h : r ∈ recordsOfPass m c p) :
    p.val * 256 ≤ recordRank r ∧ recordRank r < p.val * 256 + 256 := by
  rcases mem_recordsOfPass.1 h with h | h | h
  · rw [recordRank_holdRecord h]
    omega
  · have := recordRank_cellsRecords h
    omega
  · rw [recordRank_spreadRecord h]
    omega

theorem stamps_of_mem_recordsOfPass (h : r ∈ recordsOfPass m c p) :
    r.scanNumber = c.source.image.number ∧ r.timeTag = c.source.image.timeTag := by
  rcases mem_recordsOfPass.1 h with h | h | h
  · rcases mem_holdRecord.1 h with ⟨-, rfl⟩ | ⟨-, rfl⟩ <;> exact ⟨rfl, rfl⟩
  · obtain ⟨i, -, hr⟩ := List.mem_flatMap.1 h
    exact stamps_of_mem_recordsOfCell hr
  · obtain ⟨kind, -, rfl⟩ := spreadRecord_of_mem h
    exact ⟨rfl, rfl⟩

theorem mem_publicationRecords : r ∈ publicationRecords m c ↔ ∃ p, r ∈ recordsOfPass m c p := by
  rw [publicationRecords_eq, List.mem_flatMap]
  simp

theorem publicationRecords_sorted (m : MapEngine) (c : Computation) :
    (publicationRecords m c).Pairwise fun a b => recordRank a < recordRank b := by
  refine List.pairwise_flatMap.2 ⟨fun p _ => recordsOfPass_sorted m c p,
    (List.pairwise_lt_finRange 4).imp fun {p q} hpq a ha b hb => ?_⟩
  have := recordRank_recordsOfPass ha
  have := recordRank_recordsOfPass hb
  have : p.val < q.val := hpq
  omega

/-! ### The notices that go with records (R97, R114, R119, R121, R123) -/

/-- The notice of a record about a cell is the one formed with it. -/
theorem mem_noticeOfRecord (h : r.subject = .cell i) : n ∈ noticeOfRecord i r ↔ formedWith r = some n := by
  unfold noticeOfRecord formedWith
  rw [h]
  cases hkind : r.kind
  case bandRise =>
    cases hband : r.bandAfter with
    | none => simp
    | some band => cases band <;> simp [eq_comm]
  all_goals simp [eq_comm]

/-- The notice of a record about a cell takes the place of its record's group. -/
theorem noticeRank_of_mem (h : n ∈ noticeOfRecord i r) : 1 ≤ recordGroup r.kind ∧ n.kind ≠ .passClosed
    ∧ noticeRank n = (passOf i).val * 256 + (stationOf i).val * 3 + (recordGroup r.kind - 1) := by
  unfold noticeOfRecord at h
  split at h
  next hkind _ =>
    rw [List.mem_singleton.1 h, hkind]
    exact ⟨by decide, nofun, by simp [noticeRank, recordGroup, passOf, stationOf]⟩
  next hkind _ =>
    rw [List.mem_singleton.1 h, hkind]
    exact ⟨by decide, nofun, by simp [noticeRank, recordGroup, passOf, stationOf]⟩
  next hkind =>
    rw [List.mem_singleton.1 h, hkind]
    exact ⟨by decide, nofun, by simp [noticeRank, recordGroup, passOf, stationOf]⟩
  next hkind =>
    rw [List.mem_singleton.1 h, hkind]
    exact ⟨by decide, nofun, by simp [noticeRank, recordGroup, passOf, stationOf]⟩
  next => exact absurd h List.not_mem_nil

theorem length_noticeOfRecord (i : CellIndex) (r : RecordBody) : (noticeOfRecord i r).length ≤ 1 := by
  unfold noticeOfRecord
  split <;> simp

/-! ### The notices of a publication in their order (R97) -/

theorem noticeRank_cellNotices {t : Station} (h : n ∈ cellNotices (cellAt p t) (recordsOfCell m c (cellAt p t))) :
    n.kind ≠ .passClosed ∧ p.val * 256 + t.val * 3 ≤ noticeRank n ∧ noticeRank n < p.val * 256 + t.val * 3 + 3 := by
  obtain ⟨r, -, hn⟩ := List.mem_flatMap.1 h
  obtain ⟨hgroup, hkind, hrank⟩ := noticeRank_of_mem hn
  rw [passOf_cellAt, stationOf_cellAt] at hrank
  have := recordGroup_le r.kind
  exact ⟨hkind, by omega, by omega⟩

theorem cellNotices_sorted (m : MapEngine) (c : Computation) (i : CellIndex) :
    (cellNotices i (recordsOfCell m c i)).Pairwise fun a b => noticeRank a < noticeRank b := by
  refine List.pairwise_flatMap.2 ⟨fun r _ => pairwise_of_length_le_one (length_noticeOfRecord i r),
    (recordsOfCell_sorted m c i).imp fun {x y} hxy a ha b hb => ?_⟩
  obtain ⟨hx, -, hranka⟩ := noticeRank_of_mem ha
  obtain ⟨-, -, hrankb⟩ := noticeRank_of_mem hb
  omega

/-- The notices of a pass at a publication, but for PASS_CLOSED. -/
def noticesOfPass (m : MapEngine) (c : Computation) (p : PassNo) : List Notice :=
  (cellsOfPass p).flatMap (fun i => cellNotices i (recordsOfCell m c i)) ++ spreadNotice p (spreadRecord m c p)

theorem publicationNotices_eq (m : MapEngine) (c : Computation) : publicationNotices m c =
    (List.finRange 4).flatMap fun p => noticesOfPass m c p ++ [⟨.passClosed, some p.val⟩] := rfl

theorem mem_spreadNotice : n ∈ spreadNotice p (spreadRecord m c p) ↔
    (∃ r ∈ spreadRecord m c p, r.kind = .spreadOn) ∧ n = ⟨.spreadHigh, some p.val⟩ := by
  simp only [spreadNotice, List.mem_flatMap]
  constructor
  · rintro ⟨r, hr, hn⟩
    split at hn
    next hkind => exact ⟨⟨r, hr, hkind⟩, List.mem_singleton.1 hn⟩
    next => exact absurd hn List.not_mem_nil
  · rintro ⟨⟨r, hr, hkind⟩, hn⟩
    exact ⟨r, hr, by rw [if_pos hkind]; exact List.mem_singleton.2 hn⟩

theorem length_spreadNotice {l : List RecordBody} (p : PassNo) (h : l.length ≤ 1) : (spreadNotice p l).length ≤ 1 := by
  match l with
  | [] => simp [spreadNotice]
  | [r] =>
    rw [spreadNotice, List.flatMap_singleton]
    split <;> simp
  | _ :: _ :: _ => simp at h

theorem noticeRank_spreadHigh (p : PassNo) : noticeRank ⟨.spreadHigh, some p.val⟩ = p.val * 256 + 254 := by
  simp [noticeRank]

theorem noticeRank_passClosed (p : PassNo) : noticeRank ⟨.passClosed, some p.val⟩ = p.val * 256 + 255 := by
  simp [noticeRank]

/-- The notices of a pass before its PASS_CLOSED. -/
theorem noticeRank_noticesOfPass (h : n ∈ noticesOfPass m c p) :
    n.kind ≠ .passClosed ∧ p.val * 256 ≤ noticeRank n ∧ noticeRank n < p.val * 256 + 255 := by
  rcases List.mem_append.1 h with h | h
  · obtain ⟨i, hi, hn⟩ := List.mem_flatMap.1 h
    obtain ⟨t, rfl⟩ := mem_cellsOfPass.1 hi
    obtain ⟨hkind, hlow, hhigh⟩ := noticeRank_cellNotices hn
    have := t.isLt
    exact ⟨hkind, (Nat.le_add_right _ _).trans hlow, by omega⟩
  · obtain ⟨-, rfl⟩ := mem_spreadNotice.1 h
    rw [noticeRank_spreadHigh]
    exact ⟨nofun, Nat.le_add_right (p.val * 256) 254, Nat.add_lt_add_left (by decide : 254 < 255) (p.val * 256)⟩

theorem noticesOfPass_sorted (m : MapEngine) (c : Computation) (p : PassNo) :
    (noticesOfPass m c p).Pairwise fun a b => noticeRank a < noticeRank b := by
  refine List.pairwise_append.2 ⟨List.pairwise_flatMap.2 ⟨fun i _ => cellNotices_sorted m c i,
    pairwise_cellsOfPass p fun t u htu a ha b hb => ?_⟩, pairwise_of_length_le_one (length_spreadNotice p (length_spreadRecord m c p)),
    fun a ha b hb => ?_⟩
  · have := noticeRank_cellNotices ha
    have := noticeRank_cellNotices hb
    have : t.val < u.val := htu
    omega
  · obtain ⟨i, hi, hn⟩ := List.mem_flatMap.1 ha
    obtain ⟨t, rfl⟩ := mem_cellsOfPass.1 hi
    have := noticeRank_cellNotices hn
    have hrank : noticeRank b = p.val * 256 + 254 := by
      rw [(mem_spreadNotice.1 hb).2, noticeRank_spreadHigh]
    have := t.isLt
    omega

theorem publicationNotices_sorted (m : MapEngine) (c : Computation) :
    (publicationNotices m c).Pairwise fun a b => noticeRank a < noticeRank b := by
  have hbounds : ∀ p : PassNo, ∀ n ∈ noticesOfPass m c p ++ [⟨.passClosed, some p.val⟩],
      p.val * 256 ≤ noticeRank n ∧ noticeRank n < p.val * 256 + 256 := by
    intro p n hn
    rcases List.mem_append.1 hn with hn | hn
    · have := noticeRank_noticesOfPass hn
      omega
    · rw [List.mem_singleton.1 hn, noticeRank_passClosed]
      omega
  rw [publicationNotices_eq]
  refine List.pairwise_flatMap.2 ⟨fun p _ => List.pairwise_append.2 ⟨noticesOfPass_sorted m c p,
    List.pairwise_singleton _ _, fun a ha b hb => ?_⟩, (List.pairwise_lt_finRange 4).imp fun {p q} hpq a ha b hb => ?_⟩
  · rw [List.mem_singleton.1 hb, noticeRank_passClosed]
    exact (noticeRank_noticesOfPass ha).2.2
  · have := hbounds p a ha
    have := hbounds q b hb
    have : p.val < q.val := hpq
    omega

/-- One PASS_CLOSED for each pass. -/
theorem filter_passClosed (m : MapEngine) (c : Computation) : (publicationNotices m c).filter (fun n => n.kind == .passClosed) =
    (List.range 4).map fun p => ⟨.passClosed, some p⟩ := by
  have hpass : ∀ p : PassNo, (noticesOfPass m c p ++ [(⟨.passClosed, some p.val⟩ : Notice)]).filter
      (fun n => n.kind == .passClosed) = [⟨.passClosed, some p.val⟩] := by
    intro p
    have hnone : (noticesOfPass m c p).filter (fun n => n.kind == .passClosed) = [] :=
      List.filter_eq_nil_iff.2 fun n hn => by simpa using (noticeRank_noticesOfPass hn).1
    rw [List.filter_append, hnone]
    rfl
  rw [publicationNotices_eq, List.filter_flatMap]
  simp only [hpass]
  rfl

/-! ### The notices are those of the records -/

theorem formedWith_holdRecord (h : r ∈ holdRecord c p) : formedWith r = none := by
  rcases mem_holdRecord.1 h with ⟨-, rfl⟩ | ⟨-, rfl⟩ <;> rfl

theorem formedWith_spreadRecord (h : r ∈ spreadRecord m c p) :
    formedWith r = some n ↔ r.kind = .spreadOn ∧ n = ⟨.spreadHigh, some p.val⟩ := by
  obtain ⟨kind, rfl | rfl, rfl⟩ := spreadRecord_of_mem h
  · simp [formedWith, passRecord, eq_comm]
  · simp [formedWith, passRecord]

/-- The notices of a pass but for PASS_CLOSED are just those formed with its records. -/
theorem mem_noticesOfPass : n ∈ noticesOfPass m c p ↔ ∃ r ∈ recordsOfPass m c p, formedWith r = some n := by
  rw [noticesOfPass, List.mem_append, mem_spreadNotice]
  constructor
  · rintro (h | ⟨⟨r, hr, hkind⟩, hn⟩)
    · obtain ⟨i, hi, h⟩ := List.mem_flatMap.1 h
      obtain ⟨r, hr, hn⟩ := List.mem_flatMap.1 h
      exact ⟨r, mem_recordsOfPass.2 (.inr (.inl (List.mem_flatMap.2 ⟨i, hi, hr⟩))),
        (mem_noticeOfRecord (subject_of_mem_recordsOfCell hr).1).1 hn⟩
    · exact ⟨r, mem_recordsOfPass.2 (.inr (.inr hr)), (formedWith_spreadRecord hr).2 ⟨hkind, hn⟩⟩
  · rintro ⟨r, hr, hn⟩
    rcases mem_recordsOfPass.1 hr with hr | hr | hr
    · rw [formedWith_holdRecord hr] at hn
      exact nomatch hn
    · obtain ⟨i, hi, hr⟩ := List.mem_flatMap.1 hr
      exact .inl (List.mem_flatMap.2 ⟨i, hi, List.mem_flatMap.2 ⟨r, hr,
        (mem_noticeOfRecord (subject_of_mem_recordsOfCell hr).1).2 hn⟩⟩)
    · obtain ⟨hkind, hn⟩ := (formedWith_spreadRecord hr).1 hn
      exact .inr ⟨⟨r, hr, hkind⟩, hn⟩

theorem mem_publicationNotices (h : n.kind ≠ .passClosed) :
    n ∈ publicationNotices m c ↔ ∃ r ∈ publicationRecords m c, formedWith r = some n := by
  have hother : ∀ p : PassNo, n ≠ ⟨.passClosed, some p.val⟩ := fun p hn => h (by rw [hn])
  simp only [publicationNotices_eq, List.mem_flatMap, List.mem_append, List.mem_singleton, hother, or_false,
    List.mem_finRange, true_and, mem_noticesOfPass, mem_publicationRecords]
  exact ⟨fun ⟨p, r, hr, hn⟩ => ⟨r, ⟨p, hr⟩, hn⟩, fun ⟨r, ⟨p, hr⟩, hn⟩ => ⟨p, r, hr, hn⟩⟩

/-! ### The frames of a publication (R94, R129) -/

/-- The numbers below `n`, in their order. -/
theorem filter_lt_finRange (k n : Nat) : (List.finRange k).filter (fun t => decide (t.val < n)) = (List.finRange k).take n := by
  have htake : ((List.finRange k).take n).filter (fun t => decide (t.val < n)) = (List.finRange k).take n := by
    refine List.filter_eq_self.2 fun t ht => ?_
    obtain ⟨j, hj, rfl⟩ := List.mem_take_iff_getElem.1 ht
    rw [List.getElem_finRange]
    exact decide_eq_true (lt_of_lt_of_le hj (Nat.min_le_left _ _))
  have hdrop : ((List.finRange k).drop n).filter (fun t => decide (t.val < n)) = [] := by
    refine List.filter_eq_nil_iff.2 fun t ht => ?_
    obtain ⟨j, hj, rfl⟩ := List.mem_drop_iff_getElem.1 ht
    rw [List.getElem_finRange]
    simp
  conv_lhs => rw [← List.take_append_drop n (List.finRange k)]
  rw [List.filter_append, htake, hdrop, List.append_nil]

theorem frame_entries (m : MapEngine) (c : Computation) (p : PassNo) : (frameOf m c p).entries =
    ((List.finRange 32).take m.passes[p].stations).map fun t => stationEntry (computedCells m c)[cellAt p t] := by
  rw [← filter_lt_finRange, frameOf, cellsOfPass, List.filter_map, List.map_map]
  simp only [Function.comp_def, isPresent_cellAt]

theorem frame_summary (m : MapEngine) (c : Computation) (p : PassNo) : (frameOf m c p).summary =
    summaryOf m.passes (computedCells m c) c.source.image (checkedPasses m c)[p].spreadFlag p := by
  rw [frameOf, publishedSummaries]
  exact tab_get _ _ _

theorem streamsStandInOrder : StreamsStandInOrder := by
  intro m c
  refine ⟨publicationRecords_sorted m c, fun r hr => ?_, publicationNotices_sorted m c, filter_passClosed m c,
    fun n hn => mem_publicationNotices hn, rfl, fun f hf => ?_⟩
  · obtain ⟨p, hr⟩ := mem_publicationRecords.1 hr
    have := recordRank_recordsOfPass hr
    have := p.isLt
    exact ⟨by omega, stamps_of_mem_recordsOfPass hr⟩
  · obtain ⟨p, -, rfl⟩ := List.mem_map.1 hf
    rw [frame_summary, frame_entries]
    refine ⟨rfl, rfl, rfl, fun hmax => ?_, fun t ht => ?_⟩
    · rw [List.length_map, List.length_take, List.length_finRange]
      exact Nat.min_eq_left hmax
    · have hlength : t.val < (List.finRange 32).length := by simp
      rw [List.getElem?_map, List.getElem?_take_of_lt (show t.val < m.passes[p].stations from ht), List.getElem?_eq_getElem hlength, List.getElem_finRange]
      rfl

end Sys2Proof.Machine
end

section
/-! PROOF. Just which records a publication forms about cells and passes, and what each carries (R81, R96, R98, R113, R114, R119 to R124). -/

namespace Sys2Proof.Machine

variable {m : MapEngine} {c : Computation} {image : ScanImage} {i : CellIndex} {p : PassNo} {r : RecordBody}
  {held released bound : Bool} {b : Binding} {old new x : CellState} {z : ZoneRecord}

/-! ### Records about a pass (R81, R123, R124) -/

theorem mem_publicationRecords_pass (h : r.subject = .pass p) :
    r ∈ publicationRecords m c ↔ r ∈ holdRecord c p ∨ r ∈ spreadRecord m c p := by
  rw [mem_publicationRecords]
  constructor
  · rintro ⟨q, hq⟩
    rcases mem_recordsOfPass.1 hq with hr | hr | hr
    · obtain rfl : p = q := Subject.pass.inj (h.symm.trans (subject_of_mem_holdRecord hr))
      exact .inl hr
    · obtain ⟨i, -, hr⟩ := List.mem_flatMap.1 hr
      exact absurd (h.symm.trans (subject_of_mem_recordsOfCell hr).1) nofun
    · obtain rfl : p = q := Subject.pass.inj (h.symm.trans (subject_of_mem_spreadRecord hr))
      exact .inr hr
  · rintro (hr | hr)
    · exact ⟨p, mem_recordsOfPass.2 (.inl hr)⟩
    · exact ⟨p, mem_recordsOfPass.2 (.inr (.inr hr))⟩

/-- A spread check moves the flag just where it runs and finds the spread above the limit often enough, or not
above it (R123). -/
theorem spreadCheck_flag {persistence : Nat} {spread : Option Int} {e : PassEntry} (hheld : e.held = false)
    {limit : Int} (hlimit : e.spreadLimit = some limit) (flag : Bool) :
    (e.spreadFlag ≠ (spreadCheck persistence spread e).spreadFlag ∧ (spreadCheck persistence spread e).spreadFlag = flag) ↔
      ∃ s, spread = some s ∧ ((flag = true ∧ e.spreadFlag = false ∧ limit < s ∧ persistence ≤ e.spreadCount + 1)
        ∨ (flag = false ∧ e.spreadFlag = true ∧ s ≤ limit)) := by
  unfold spreadCheck
  rw [hheld, hlimit]
  cases spread with
  | none => simp
  | some s =>
    by_cases habove : limit < s
    · cases hflag : e.spreadFlag <;> cases flag <;> simp [stepCheck, habove]
    · cases hflag : e.spreadFlag <;> cases flag <;> simp [stepCheck, habove]
      omega

theorem mem_spreadRecord : r ∈ spreadRecord m c p ↔
    ∃ flag limit, m.passes[p].held = false ∧ m.passes[p].spreadLimit = some limit
      ∧ (m.passes[p].spreadFlag ≠ (checkedPasses m c)[p].spreadFlag ∧ (checkedPasses m c)[p].spreadFlag = flag)
      ∧ r = passRecord c.source.image p (if flag then .spreadOn else .spreadOff)
          (publishedSummaries m c)[p].hottestStation (publishedSummaries m c)[p].spread := by
  unfold spreadRecord
  dsimp only
  split
  next h =>
    refine iff_of_false List.not_mem_nil ?_
    rintro ⟨flag, limit, hheld, hlimit, ⟨hne, -⟩, -⟩
    rw [hheld, hlimit, Bool.false_or, Option.isNone_some, Bool.false_or, decide_eq_true_eq] at h
    exact hne h
  next h =>
    simp only [Bool.or_eq_true, decide_eq_true_eq, not_or, Bool.not_eq_true, Option.isNone_eq_false_iff] at h
    obtain ⟨⟨hheld, hlimit⟩, hne⟩ := h
    obtain ⟨limit, hlimit⟩ := Option.isSome_iff_exists.1 hlimit
    rw [List.mem_singleton]
    exact ⟨fun hr => ⟨_, limit, hheld, hlimit, ⟨hne, rfl⟩, hr⟩, fun ⟨flag, _, _, _, ⟨_, hflag⟩, hr⟩ => by rw [hflag, hr]⟩

theorem checkedPasses_spreadFlag (m : MapEngine) (c : Computation) (p : PassNo) : (checkedPasses m c)[p].spreadFlag =
    (spreadCheck m.zones[(0 : ZoneNo)].persistence (publishedSummaries m c)[p].spread m.passes[p]).spreadFlag := by
  have hsummary : (publishedSummaries m c)[p].spread = spreadOf m c p := by
    rw [publishedSummaries, Fin.getElem_fin, tab_get]
    rfl
  rw [hsummary, checkedPasses, Fin.getElem_fin, tab_get]

theorem passRecordsFormed : PassRecordsFormed := by
  intro m c p r h
  dsimp only
  rw [mem_publicationRecords_pass h, mem_holdRecord, mem_spreadRecord, or_assoc, checkedPasses_spreadFlag,
    MapEngine.completed_published]
  refine or_congr_right (or_congr_right ?_)
  constructor
  · rintro ⟨flag, limit, hheld, hlimit, hmove, hr⟩
    obtain ⟨s, hs, ⟨rfl, hflag, habove, hcount⟩ | ⟨rfl, hflag, hbelow⟩⟩ := (spreadCheck_flag hheld hlimit flag).1 hmove
    · exact .inl ⟨limit, s, ⟨hheld, hlimit, hs⟩, hflag, habove, hcount, by rw [hr, hs]; rfl⟩
    · exact .inr ⟨limit, s, ⟨hheld, hlimit, hs⟩, hflag, hbelow, by rw [hr, hs]; rfl⟩
  · rintro (⟨limit, s, ⟨hheld, hlimit, hs⟩, hflag, habove, hcount, hr⟩ | ⟨limit, s, ⟨hheld, hlimit, hs⟩, hflag, hbelow, hr⟩)
    · exact ⟨true, limit, hheld, hlimit, (spreadCheck_flag hheld hlimit true).2 ⟨s, hs, .inl ⟨rfl, hflag, habove, hcount⟩⟩,
        by rw [hr, hs]; rfl⟩
    · exact ⟨false, limit, hheld, hlimit, (spreadCheck_flag hheld hlimit false).2 ⟨s, hs, .inr ⟨rfl, hflag, hbelow⟩⟩,
        by rw [hr, hs]; rfl⟩

/-! ### Records about a cell -/

theorem mem_publicationRecords_cell (h : r.subject = .cell i) :
    r ∈ publicationRecords m c ↔ r ∈ recordsOfCell m c i := by
  refine ⟨fun hr => mem_recordsOfCell_of_subject hr h, fun hr => mem_publicationRecords.2 ⟨passOf i,
    mem_recordsOfPass.2 (.inr (.inl (List.mem_flatMap.2 ⟨i, mem_cellsOfPass.2 ⟨stationOf i, ?_⟩, hr⟩)))⟩⟩
  exact Fin.ext (show i.val / 32 * 32 + i.val % 32 = i.val by omega)

theorem mem_recordsOfCell : r ∈ recordsOfCell m c i ↔ isPresent m.passes i = true ∧ m.bindings[i].logEnable = true
    ∧ (r ∈ sourceRecord c.source.image i m.bindings[i].primary.isSome c.savedCells[i] (computedCells m c)[i]
      ∨ r ∈ bandRecord c.source.image i c.released[passOf i] c.savedCells[i] (computedCells m c)[i]
      ∨ r ∈ rateRecord c.source.image i m.passes[passOf i].held c.released[passOf i] c.savedCells[i] (computedCells m c)[i]
      ∨ r ∈ disagreeRecord c.source.image i m.passes[passOf i].held c.released[passOf i] m.bindings[i] c.savedCells[i]
          (computedCells m c)[i]) := by
  unfold recordsOfCell cellRecords
  split
  next hpresent =>
    split
    next hlog => simp only [hpresent, hlog, true_and, List.mem_append, or_assoc]
    next hlog => exact iff_of_false List.not_mem_nil fun h => hlog h.2.1
  next hpresent => exact iff_of_false List.not_mem_nil fun h => hpresent h.1

/-! The source record (R96) -/

theorem mem_sourceRecord : r ∈ sourceRecord image i bound old new ↔ bound = true ∧ old.scanNumber ≠ 0
    ∧ ((old.quality = .good ∧ new.quality ≠ .good ∧ r = cellRecord image i new .sourceLost new.resolved none)
      ∨ (old.quality ≠ .good ∧ new.quality = .good ∧ r = cellRecord image i new .sourceBack new.resolved none)) := by
  unfold sourceRecord
  by_cases hrun : bound = true ∧ old.scanNumber ≠ 0
  · rw [if_pos (by simpa using hrun), and_iff_right hrun.1, and_iff_right hrun.2]
    by_cases hold : old.quality = .good <;> by_cases hnew : new.quality = .good <;> simp [hold, hnew]
  · rw [if_neg (by simpa using hrun)]
    exact iff_of_false List.not_mem_nil fun h => hrun ⟨h.1, h.2.1⟩

/-! The band record (R114) -/

theorem bandRank_inj {x y : Band} (hx : x ≠ .held) (hy : y ≠ .held) (h : bandRank x = bandRank y) : x = y := by
  cases x <;> cases y <;> simp_all [bandRank]

theorem mem_bandRecord : r ∈ bandRecord image i released old new ↔
    bandBefore released old ≠ .held ∧ new.band ≠ .held
    ∧ ((bandRank (bandBefore released old) < bandRank new.band
        ∧ r = cellRecord image i new .bandRise new.filtered (some (bandBefore released old, new.band)))
      ∨ (bandRank new.band < bandRank (bandBefore released old)
        ∧ r = cellRecord image i new .bandFall new.filtered (some (bandBefore released old, new.band)))) := by
  unfold bandRecord
  dsimp only
  generalize bandBefore released old = before
  split
  next h =>
    refine iff_of_false List.not_mem_nil ?_
    rintro ⟨hbefore, hnew, hmove⟩
    obtain rfl : before = new.band := by simpa [hbefore, hnew] using h
    omega
  next h =>
    simp only [Bool.or_eq_true, decide_eq_true_eq, not_or] at h
    obtain ⟨⟨hbefore, hnew⟩, hne⟩ := h
    have hrank : bandRank before ≠ bandRank new.band := fun heq => hne (bandRank_inj hbefore hnew heq)
    rw [List.mem_singleton]
    rcases lt_or_gt_of_ne hrank with hlt | hgt
    · simp [hbefore, hnew, hlt, not_lt.2 hlt.le]
    · simp [hbefore, hnew, hgt, not_lt.2 hgt.le]

/-! The rate record (R119, R120, R113) -/

/-- The rate that a record carries. -/
def rateCarried (image : ScanImage) (new : CellState) : Option Int :=
  match new.filtered, new.prevFiltered with
  | some f, some p => some (rateValue (rateOf image.interval f p))
  | _, _ => none

theorem mem_rateRecord : r ∈ rateRecord image i held released old new ↔ held = false
    ∧ (old.flags.rate && !released) ≠ new.flags.rate
    ∧ r = cellRecord image i new (if new.flags.rate then .rateOn else .rateOff) (rateCarried image new) none := by
  have hvalue : rateRecord image i held released old new =
      if held || (old.flags.rate && !released) = new.flags.rate then []
      else [cellRecord image i new (if new.flags.rate then .rateOn else .rateOff) (rateCarried image new) none] := rfl
  rw [hvalue]
  split
  next h =>
    refine iff_of_false List.not_mem_nil ?_
    rintro ⟨hheld, hne, -⟩
    simp [hheld, hne] at h
  next h =>
    simp only [Bool.or_eq_true, decide_eq_true_eq, not_or, Bool.not_eq_true] at h
    rw [List.mem_singleton]
    exact ⟨fun hr => ⟨h.1, h.2, hr⟩, fun hr => hr.2.2⟩

/-! The disagreement record (R121, R122, R113) -/

/-- The difference that a record carries. -/
def disagreeCarried (image : ScanImage) (b : Binding) (new : CellState) : Option Int :=
  match new.quality, usableReading image.readings b.primary, usableReading image.readings b.secondary with
  | .void, _, _ => none
  | _, some x, some y => some ((x.1 - y.1).natAbs : Int)
  | _, _, _ => none

theorem mem_disagreeRecord : r ∈ disagreeRecord image i held released b old new ↔ held = false
    ∧ (old.flags.disagree && !released) ≠ new.flags.disagree
    ∧ r = cellRecord image i new (if new.flags.disagree then .disagreeOn else .disagreeOff)
        (disagreeCarried image b new) none := by
  have hvalue : disagreeRecord image i held released b old new =
      if held || (old.flags.disagree && !released) = new.flags.disagree then []
      else [cellRecord image i new (if new.flags.disagree then .disagreeOn else .disagreeOff)
        (disagreeCarried image b new) none] := rfl
  rw [hvalue]
  split
  next h =>
    refine iff_of_false List.not_mem_nil ?_
    rintro ⟨hheld, hne, -⟩
    simp [hheld, hne] at h
  next h =>
    simp only [Bool.or_eq_true, decide_eq_true_eq, not_or, Bool.not_eq_true] at h
    rw [List.mem_singleton]
    exact ⟨fun hr => ⟨h.1, h.2, hr⟩, fun hr => hr.2.2⟩

/-! ### What stages 2 to 6 leave of the checks -/

/-- Two cells alike in the flags of the checks and the previous-valid marker. -/
def SameChecks (c d : CellState) : Prop :=
  d.flags.rate = c.flags.rate ∧ d.flags.disagree = c.flags.disagree ∧ d.prevValid = c.prevValid

theorem SameChecks.trans {c d e : CellState} (h : SameChecks c d) (h' : SameChecks d e) : SameChecks c e :=
  ⟨h'.1.trans h.1, h'.2.1.trans h.2.1, h'.2.2.trans h.2.2⟩

theorem sameChecks_applyZone (zones : Vector ZoneRecord 8) (limitsChanged : Vector Bool 8) (i : CellIndex) (x : CellState) :
    SameChecks x (applyZone zones limitsChanged i x) := by
  unfold applyZone
  dsimp only
  split <;> exact ⟨rfl, rfl, rfl⟩

theorem sameChecks_resolveCell (allowance : Nat) (b : Binding) (readings : Vector Reading 96) (x : CellState) :
    SameChecks x (resolveCell allowance b readings x) := by
  unfold resolveCell
  split
  · exact ⟨rfl, rfl, rfl⟩
  · split <;> exact ⟨rfl, rfl, rfl⟩

theorem sameChecks_estimateCell (passes : Vector PassEntry 4) (cells : Vector CellState 128) (i : CellIndex)
    (x : CellState) : SameChecks x (estimateCell passes cells i x) := by
  unfold estimateCell
  split <;> exact ⟨rfl, rfl, rfl⟩

theorem sameChecks_peakCell (clear : Bool) (tag : Word32) (x : CellState) :
    SameChecks x (peakCell clear tag x) ∧ (peakCell clear tag x).zone = x.zone := by
  unfold peakCell
  (repeat' split) <;> exact ⟨⟨rfl, rfl, rfl⟩, rfl⟩

theorem classifyCell_zone (held released : Bool) (z : ZoneRecord) (b : Binding) (image : ScanImage) (x : CellState) :
    (classifyCell held released z b image x).zone = x.zone := by
  unfold classifyCell
  dsimp only
  (repeat' split) <;> rfl

/-- A computed cell is classified, in its governing zone, from a cell that has the check flags and the
previous-valid marker of before the computation. -/
theorem computedCells_classified (hi : isPresent m.passes i = true) : ∃ x : CellState, SameChecks m.cells[i] x
    ∧ (computedCells m c)[i] = { classifyCell m.passes[passOf i].held c.released[passOf i] m.zones[x.zone] m.bindings[i]
        c.source.image x with scanNumber := c.source.image.number }
    ∧ (computedCells m c)[i].zone = x.zone := by
  have hzone : SameChecks m.cells[i] (stage2 m c)[i] := by
    rw [stage2_get hi]
    exact sameChecks_applyZone ..
  have hresolve : SameChecks (stage2 m c)[i] (stage3 m c)[i] := by
    rw [stage3_get hi rfl]
    exact sameChecks_resolveCell ..
  have hestimate : SameChecks (stage3 m c)[i] (stage4 m c)[i] := by
    rw [stage4_get hi rfl]
    exact sameChecks_estimateCell ..
  rw [computedCells_get hi rfl]
  generalize (stage4 m c)[i] = y at hestimate
  obtain ⟨hpeak, hpeakZone⟩ := sameChecks_peakCell c.clearPeaks[passOf i] c.source.image.timeTag
    (filterCell c.released[passOf i] m.zones[y.zone].weight y)
  refine ⟨peakCell c.clearPeaks[passOf i] c.source.image.timeTag (filterCell c.released[passOf i] m.zones[y.zone].weight y),
    ((hzone.trans hresolve).trans hestimate).trans hpeak, ?_, classifyCell_zone ..⟩
  have hz : (peakCell c.clearPeaks[passOf i] c.source.image.timeTag
    (filterCell c.released[passOf i] m.zones[y.zone].weight y)).zone = y.zone := hpeakZone
  simp only [finishCell, hz]

/-! ### What moves a check's flag (R113, R117, R119, R121) -/

/-- The cell that stage 7 works on: from NORMAL with clear checks in a released pass (R117). -/
def startedCell (released : Bool) (x : CellState) : CellState := if released then clearedChecks .normal x else x

theorem startedCell_values (released : Bool) (x : CellState) :
    (startedCell released x).quality = x.quality ∧ (startedCell released x).prevValid = x.prevValid
      ∧ (startedCell released x).filtered = x.filtered ∧ (startedCell released x).prevFiltered = x.prevFiltered := by
  cases released <;> exact ⟨rfl, rfl, rfl, rfl⟩

theorem startedCell_flags (released : Bool) (x : CellState) :
    (startedCell released x).flags.rate = (x.flags.rate && !released)
      ∧ (startedCell released x).flags.disagree = (x.flags.disagree && !released) := by
  cases released <;> simp [startedCell, clearedChecks]

theorem classifyCell_void (h : x.quality = .void) (released : Bool) (z : ZoneRecord) (b : Binding) (image : ScanImage) :
    (classifyCell false released z b image x).flags.rate = false
      ∧ (classifyCell false released z b image x).flags.disagree = false := by
  simp [classifyCell, clearedChecks, h]

theorem classifyCell_checks (h : x.quality ≠ .void) (released : Bool) (z : ZoneRecord) (b : Binding) (image : ScanImage) :
    (classifyCell false released z b image x).flags.rate = (rateCheck z image.interval (startedCell released x)).2
      ∧ (classifyCell false released z b image x).flags.disagree
        = (disagreeCheck z b image.readings (startedCell released x)).2 := by
  simp [classifyCell, classifyValue, startedCell, h]

/-- A check that moves its flag found the quantity above the limit, or not above it. -/
theorem stepCheck_moves {persistence count : Nat} {above flag : Bool}
    (h : flag ≠ (stepCheck persistence above count flag).2) :
    (flag = false ∧ (stepCheck persistence above count flag).2 = true ∧ above = true)
      ∨ (flag = true ∧ (stepCheck persistence above count flag).2 = false ∧ above = false) := by
  cases flag <;> cases above <;> simp_all [stepCheck]

theorem rateInput_eq_some {interval : Nat} {rate limit : Int} (h : rateInput z interval x = some (rate, limit)) :
    x.quality = .good ∧ x.prevValid = true ∧ z.rateLimit = some limit
      ∧ ∃ f p, x.filtered = some f ∧ x.prevFiltered = some p ∧ rate = rateOf interval f p := by
  unfold rateInput at h
  split at h
  next hrun =>
    rw [Bool.and_eq_true, decide_eq_true_eq] at hrun
    split at h
    next limit' f p hlimit hf hp =>
      obtain ⟨rfl, rfl⟩ := Prod.mk.inj (Option.some.inj h)
      exact ⟨hrun.1, hrun.2, hlimit, f, p, hf, hp, rfl⟩
    next => exact nomatch h
  next => exact nomatch h

theorem disagreeInput_eq_some {readings : Vector Reading 96} {difference limit : Int}
    (h : disagreeInput z b readings = some (difference, limit)) : z.discrepancy = some limit
      ∧ ∃ q v u w, UsableFor readings b.primary q v ∧ UsableFor readings b.secondary u w
        ∧ difference = ((v - w).natAbs : Int) := by
  unfold disagreeInput at h
  split at h
  next limit' y y' hlimit hprimary hsecondary =>
    obtain ⟨rfl, rfl⟩ := Prod.mk.inj (Option.some.inj h)
    exact ⟨hlimit, y.2, y.1, y'.2, y'.1, usableReading_eq_some_iff.1 hprimary, usableReading_eq_some_iff.1 hsecondary, rfl⟩
  next => exact nomatch h

/-- The rate check moves its flag only where it runs. -/
theorem rateCheck_moves {interval : Nat} (h : x.flags.rate ≠ (rateCheck z interval x).2) :
    ∃ rate limit, rateInput z interval x = some (rate, limit)
      ∧ ((x.flags.rate = false ∧ (rateCheck z interval x).2 = true ∧ limit < rate)
        ∨ (x.flags.rate = true ∧ (rateCheck z interval x).2 = false ∧ rate ≤ limit)) := by
  unfold rateCheck at h ⊢
  rcases hinput : rateInput z interval x with _ | ⟨rate, limit⟩
  · rw [hinput] at h
    exact absurd rfl h
  · rw [hinput] at h
    refine ⟨rate, limit, rfl, (stepCheck_moves h).imp ?_ ?_⟩
    · exact fun ⟨hbefore, hafter, habove⟩ => ⟨hbefore, hafter, of_decide_eq_true habove⟩
    · exact fun ⟨hbefore, hafter, hbelow⟩ => ⟨hbefore, hafter, not_lt.1 (of_decide_eq_false hbelow)⟩

/-- The disagreement check moves its flag only where it runs. -/
theorem disagreeCheck_moves {readings : Vector Reading 96} (h : x.flags.disagree ≠ (disagreeCheck z b readings x).2) :
    ∃ difference limit, disagreeInput z b readings = some (difference, limit)
      ∧ ((x.flags.disagree = false ∧ (disagreeCheck z b readings x).2 = true ∧ limit < difference)
        ∨ (x.flags.disagree = true ∧ (disagreeCheck z b readings x).2 = false ∧ difference ≤ limit)) := by
  unfold disagreeCheck at h ⊢
  rcases hinput : disagreeInput z b readings with _ | ⟨difference, limit⟩
  · rw [hinput] at h
    exact absurd rfl h
  · rw [hinput] at h
    refine ⟨difference, limit, rfl, (stepCheck_moves h).imp ?_ ?_⟩
    · exact fun ⟨hbefore, hafter, habove⟩ => ⟨hbefore, hafter, of_decide_eq_true habove⟩
    · exact fun ⟨hbefore, hafter, hbelow⟩ => ⟨hbefore, hafter, not_lt.1 (of_decide_eq_false hbelow)⟩

/-! ### The flags of a computed cell -/

theorem rateLimit_congr {y w : ZoneNo} {l : Option Int} (h : y = w) (hl : m.zones[w].rateLimit = l) :
    m.zones[y].rateLimit = l := by
  subst h
  exact hl

theorem discrepancy_congr {y w : ZoneNo} {l : Option Int} (h : y = w) (hl : m.zones[w].discrepancy = l) :
    m.zones[y].discrepancy = l := by
  subst h
  exact hl

/-- What a computation past its latch moves the RATE flag of a cell for, in a pass not held. -/
theorem rate_cause (hi : isPresent m.passes i = true) (hheld : m.passes[passOf i].held = false)
    (hne : (m.cells[i].flags.rate && !c.released[passOf i]) ≠ (computedCells m c)[i].flags.rate) :
    ((m.cells[i].flags.rate && !c.released[passOf i]) = false ∧ (computedCells m c)[i].flags.rate = true
      ∧ ∃ rate limit, RateChecked m c m.cells[i] (computedCells m c)[i] rate limit ∧ limit < rate)
    ∨ ((m.cells[i].flags.rate && !c.released[passOf i]) = true ∧ (computedCells m c)[i].flags.rate = false
      ∧ ((computedCells m c)[i].quality = .void
        ∨ ∃ rate limit, RateChecked m c m.cells[i] (computedCells m c)[i] rate limit ∧ rate ≤ limit)) := by
  obtain ⟨x, ⟨hrate, -, hvalid⟩, hafter, hzone⟩ := computedCells_classified (c := c) hi
  generalize (computedCells m c)[i] = after at hne hafter hzone ⊢
  rw [hheld] at hafter
  subst hafter
  dsimp only at hne hzone ⊢
  obtain ⟨hquality, -, hfiltered, -, hprev⟩ := classifyCell_frame false c.released[passOf i] m.zones[x.zone] m.bindings[i]
    c.source.image x
  by_cases hvoid : x.quality = .void
  · obtain ⟨hclear, -⟩ := classifyCell_void hvoid c.released[passOf i] m.zones[x.zone] m.bindings[i] c.source.image
    rw [hclear] at hne ⊢
    exact .inr ⟨by simpa using hne, rfl, .inl (hquality.trans hvoid)⟩
  · obtain ⟨hflag, -⟩ := classifyCell_checks hvoid c.released[passOf i] m.zones[x.zone] m.bindings[i] c.source.image
    obtain ⟨hstart, -⟩ := startedCell_flags c.released[passOf i] x
    obtain ⟨hsquality, hsvalid, hsfiltered, hsprev⟩ := startedCell_values c.released[passOf i] x
    rw [← hrate, ← hstart, hflag] at hne ⊢
    obtain ⟨rate, limit, hinput, hmove⟩ := rateCheck_moves hne
    obtain ⟨hgood, hmarker, hlimit, f, q, hf, hq, hrateOf⟩ := rateInput_eq_some hinput
    have hchecked : RateChecked m c m.cells[i] { classifyCell false c.released[passOf i] m.zones[x.zone] m.bindings[i]
        c.source.image x with scanNumber := c.source.image.number } rate limit :=
      ⟨hquality.trans (hsquality.symm.trans hgood), hvalid.symm.trans (hsvalid.symm.trans hmarker),
        rateLimit_congr hzone hlimit, f, q, hfiltered.trans (hsfiltered.symm.trans hf), hprev.trans (hsprev.symm.trans hq),
        hrateOf⟩
    exact hmove.imp (fun ⟨hbefore, hup, habove⟩ => ⟨hbefore, hup, rate, limit, hchecked, habove⟩)
      fun ⟨hbefore, hdown, hbelow⟩ => ⟨hbefore, hdown, .inr ⟨rate, limit, hchecked, hbelow⟩⟩

/-- What a computation past its latch moves the DISAGREE flag of a cell for, in a pass not held. -/
theorem disagree_cause (hi : isPresent m.passes i = true) (hheld : m.passes[passOf i].held = false)
    (hne : (m.cells[i].flags.disagree && !c.released[passOf i]) ≠ (computedCells m c)[i].flags.disagree) :
    ((m.cells[i].flags.disagree && !c.released[passOf i]) = false ∧ (computedCells m c)[i].flags.disagree = true
      ∧ ∃ difference limit, DisagreementChecked m c m.bindings[i] (computedCells m c)[i] difference limit
        ∧ limit < difference)
    ∨ ((m.cells[i].flags.disagree && !c.released[passOf i]) = true ∧ (computedCells m c)[i].flags.disagree = false
      ∧ ((computedCells m c)[i].quality = .void
        ∨ ∃ difference limit, DisagreementChecked m c m.bindings[i] (computedCells m c)[i] difference limit
          ∧ difference ≤ limit)) := by
  obtain ⟨x, ⟨-, hdisagree, -⟩, hafter, hzone⟩ := computedCells_classified (c := c) hi
  generalize (computedCells m c)[i] = after at hne hafter hzone ⊢
  rw [hheld] at hafter
  subst hafter
  dsimp only at hne hzone ⊢
  obtain ⟨hquality, -⟩ := classifyCell_frame false c.released[passOf i] m.zones[x.zone] m.bindings[i] c.source.image x
  by_cases hvoid : x.quality = .void
  · obtain ⟨-, hclear⟩ := classifyCell_void hvoid c.released[passOf i] m.zones[x.zone] m.bindings[i] c.source.image
    rw [hclear] at hne ⊢
    exact .inr ⟨by simpa using hne, rfl, .inl (hquality.trans hvoid)⟩
  · obtain ⟨-, hflag⟩ := classifyCell_checks hvoid c.released[passOf i] m.zones[x.zone] m.bindings[i] c.source.image
    obtain ⟨-, hstart⟩ := startedCell_flags c.released[passOf i] x
    rw [← hdisagree, ← hstart, hflag] at hne ⊢
    obtain ⟨difference, limit, hinput, hmove⟩ := disagreeCheck_moves hne
    obtain ⟨hlimit, hread⟩ := disagreeInput_eq_some hinput
    have hchecked : DisagreementChecked m c m.bindings[i] { classifyCell false c.released[passOf i] m.zones[x.zone]
        m.bindings[i] c.source.image x with scanNumber := c.source.image.number } difference limit :=
      ⟨fun h => hvoid (hquality.symm.trans h), discrepancy_congr hzone hlimit, hread⟩
    exact hmove.imp (fun ⟨hbefore, hup, habove⟩ => ⟨hbefore, hup, difference, limit, hchecked, habove⟩)
      fun ⟨hbefore, hdown, hbelow⟩ => ⟨hbefore, hdown, .inr ⟨difference, limit, hchecked, hbelow⟩⟩

/-! ### What the records of the checks carry (R113, R120, R122) -/

theorem rateCarried_of_checked {rate limit : Int} (h : RateChecked m c old new rate limit) :
    rateCarried c.source.image new = some (max (-32767) (min 32767 rate)) := by
  obtain ⟨-, -, -, f, p, hf, hp, rfl⟩ := h
  rw [rateCarried, hf, hp]
  rfl

theorem rateCarried_of_void (h : new.filtered = none) : rateCarried image new = none := by
  rw [rateCarried, h]

theorem disagreeCarried_of_checked {difference limit : Int} (h : DisagreementChecked m c b new difference limit) :
    disagreeCarried c.source.image b new = some difference := by
  obtain ⟨hvoid, -, q, v, u, w, hprimary, hsecondary, rfl⟩ := h
  rw [disagreeCarried, usableReading_eq_some_iff.2 hprimary, usableReading_eq_some_iff.2 hsecondary]
  cases hquality : new.quality
  case void => exact absurd hquality hvoid
  all_goals rfl

theorem disagreeCarried_of_void (h : new.quality = .void) : disagreeCarried image b new = none := by
  rw [disagreeCarried, h]

theorem rateRecordFormed (hi : isPresent m.passes i = true) (hvoid : (computedCells m c)[i].quality = .void →
    (computedCells m c)[i].filtered = none) : RateRecordFormed m c i r ↔ m.passes[passOf i].held = false
      ∧ (m.cells[i].flags.rate && !c.released[passOf i]) ≠ (computedCells m c)[i].flags.rate
      ∧ r = cellRecord c.source.image i (computedCells m c)[i]
          (if (computedCells m c)[i].flags.rate then .rateOn else .rateOff)
          (rateCarried c.source.image (computedCells m c)[i]) none := by
  constructor
  · rintro ⟨hheld, ⟨hbefore, hafter, rate, limit, hchecked, -, hr⟩ | ⟨hbefore, hafter, hoff⟩⟩
    · refine ⟨hheld, by rw [hbefore, hafter]; decide, ?_⟩
      rw [hafter, rateCarried_of_checked hchecked]
      exact hr
    · refine ⟨hheld, by rw [hbefore, hafter]; decide, ?_⟩
      rw [hafter]
      rcases hoff with ⟨hquality, hr⟩ | ⟨rate, limit, hchecked, -, hr⟩
      · rw [rateCarried_of_void (hvoid hquality)]
        exact hr
      · rw [rateCarried_of_checked hchecked]
        exact hr
  · rintro ⟨hheld, hne, hr⟩
    refine ⟨hheld, ?_⟩
    rcases rate_cause hi hheld hne with ⟨hbefore, hafter, rate, limit, hchecked, habove⟩ | ⟨hbefore, hafter, hoff⟩
    · rw [hafter, rateCarried_of_checked hchecked] at hr
      exact .inl ⟨hbefore, hafter, rate, limit, hchecked, habove, hr⟩
    · rw [hafter] at hr
      refine .inr ⟨hbefore, hafter, hoff.imp (fun hquality => ⟨hquality, ?_⟩) ?_⟩
      · rw [rateCarried_of_void (hvoid hquality)] at hr
        exact hr
      · rintro ⟨rate, limit, hchecked, hbelow⟩
        rw [rateCarried_of_checked hchecked] at hr
        exact ⟨rate, limit, hchecked, hbelow, hr⟩

theorem disagreeRecordFormed (hi : isPresent m.passes i = true) : DisagreeRecordFormed m c i r ↔
    m.passes[passOf i].held = false
      ∧ (m.cells[i].flags.disagree && !c.released[passOf i]) ≠ (computedCells m c)[i].flags.disagree
      ∧ r = cellRecord c.source.image i (computedCells m c)[i]
          (if (computedCells m c)[i].flags.disagree then .disagreeOn else .disagreeOff)
          (disagreeCarried c.source.image m.bindings[i] (computedCells m c)[i]) none := by
  constructor
  · rintro ⟨hheld, ⟨hbefore, hafter, difference, limit, hchecked, -, hr⟩ | ⟨hbefore, hafter, hoff⟩⟩
    · refine ⟨hheld, by rw [hbefore, hafter]; decide, ?_⟩
      rw [hafter, disagreeCarried_of_checked hchecked]
      exact hr
    · refine ⟨hheld, by rw [hbefore, hafter]; decide, ?_⟩
      rw [hafter]
      rcases hoff with ⟨hquality, hr⟩ | ⟨difference, limit, hchecked, -, hr⟩
      · rw [disagreeCarried_of_void hquality]
        exact hr
      · rw [disagreeCarried_of_checked hchecked]
        exact hr
  · rintro ⟨hheld, hne, hr⟩
    refine ⟨hheld, ?_⟩
    rcases disagree_cause hi hheld hne with ⟨hbefore, hafter, difference, limit, hchecked, habove⟩ | ⟨hbefore, hafter, hoff⟩
    · rw [hafter, disagreeCarried_of_checked hchecked] at hr
      exact .inl ⟨hbefore, hafter, difference, limit, hchecked, habove, hr⟩
    · rw [hafter] at hr
      refine .inr ⟨hbefore, hafter, hoff.imp (fun hquality => ⟨hquality, ?_⟩) ?_⟩
      · rw [disagreeCarried_of_void hquality] at hr
        exact hr
      · rintro ⟨difference, limit, hchecked, hbelow⟩
        rw [disagreeCarried_of_checked hchecked] at hr
        exact ⟨difference, limit, hchecked, hbelow, hr⟩

/-! ### The records of a cell at a computation past its latch -/

theorem cellRecordsFormed : CellRecordsFormed := by
  intro m c i r hlaw hsubject
  rw [mem_publicationRecords_cell hsubject, mem_recordsOfCell]
  refine and_congr_right fun hi => and_congr_right fun _ => ?_
  obtain ⟨hfiltered, hresolved, -⟩ := hlaw.cellLaw_computedCells hi
  obtain ⟨-, marker, hmarker⟩ := hlaw.1 i hi
  have hband : bandBefore c.released[passOf i] c.savedCells[i]
      = if c.released[passOf i] = true then .normal else m.cells[i].band := by
    rw [hmarker]
    rfl
  rw [mem_sourceRecord, mem_bandRecord, mem_rateRecord, mem_disagreeRecord, rateRecordFormed hi hfiltered.1,
    disagreeRecordFormed hi, hband]
  unfold SourceRecordFormed BandRecordFormed
  rw [hmarker]
  dsimp only
  refine or_congr ?_ (or_congr ?_ Iff.rfl)
  · exact ⟨fun ⟨hb, hn, h⟩ => ⟨hb, hn, hresolved.1, h⟩, fun ⟨hb, hn, _, h⟩ => ⟨hb, hn, h⟩⟩
  · exact ⟨fun ⟨hb, hn, h⟩ => ⟨hb, hn, hfiltered.1, h⟩, fun ⟨hb, hn, _, h⟩ => ⟨hb, hn, h⟩⟩

/-- Settles O41: the order of the streams by the ranks of their parts, the records by what moves each flag. -/
theorem publicationStreams : Obligations.PublicationStreams := ⟨streamsStandInOrder, cellRecordsFormed, passRecordsFormed⟩

end Sys2Proof.Machine
end
